-- ==== Sys2Proof/Word.lean ====
section
/-! DEFINITION. Bytes and words: the two bit-vector types every file uses. -/

namespace Sys2Proof

/-- One byte of the IN or OUT memory (20_memory.md R40). -/
abbrev Byte := BitVec 8

/-- One 32-bit word: a register of the host-visible block (10_state.md R10) or one slot of a decode table
(00_scope.md R8). -/
abbrev Word := BitVec 32

end Sys2Proof
end

