-- ==== Sys2Proof/Machine/Errors.lean ====
section
/-! DEFINITION. The error codes of 60_exceptions.md R180. -/

namespace Sys2Proof.Machine

/-- The errors of 60_exceptions.md R180. InvalidInputType (0x01) is reserved and is never raised (R181). -/
inductive ErrorCode where
  | invalidInputType
  | unsupportedMethod
  | invalidHeaderChecksum
  | unsupportedFeature
  | unknownBlockType
  | truncatedInput
  | invalidStoredBlockHeader
  | inputBufferBroken
  | checksumMismatch
  | invalidCode
  | invalidDistance
  | codeLengthOverrun
  | outputOverflow
  | aborted
deriving DecidableEq, Repr

/-- The 8-bit code STATUS.ERRCODE shows (60_exceptions.md R180). -/
def ErrorCode.code : ErrorCode → BitVec 8
  | .invalidInputType => 0x01
  | .unsupportedMethod => 0x02
  | .invalidHeaderChecksum => 0x03
  | .unsupportedFeature => 0x04
  | .unknownBlockType => 0x05
  | .truncatedInput => 0x06
  | .invalidStoredBlockHeader => 0x07
  | .inputBufferBroken => 0x08
  | .checksumMismatch => 0x09
  | .invalidCode => 0x0A
  | .invalidDistance => 0x0B
  | .codeLengthOverrun => 0x0C
  | .outputOverflow => 0x0D
  | .aborted => 0x0E

end Sys2Proof.Machine
end

