-- ==== Sys2Proof/Syntax.lean ====
section
/-! DEFINITION. The syntax: one constructor of Instr for each row of the opcode table (30_encoding.md R60 to R81), with the row's
operand fields as bit vectors of the row's widths, and the moves of the host.

The constructors with operands stand first, then those without, each group in the table's order: stream elements (headers,
code-length symbols, the fixed literal/length code, the fixed distance code, the table-coded symbols, the trailer), the engine's
steps that read no stream bits, and the host's commands. -/

namespace Sys2Proof

/-- The width of a host access to a memory window: 1, 2 or 4 bytes (20_memory.md R46, R47). -/
inductive Width where
  | one
  | two
  | four
deriving DecidableEq, Repr

/-- A host access to the IN or OUT window (46_host_commands.md R177, R178): the byte offset in the window, the width, and the value
written (none: a read). -/
structure MemAccess where
  offset : Nat
  width  : Width
  wdata  : Option Word
deriving DecidableEq, Repr

/-- A host access as it stands on the host bus, before any window is decoded (20_memory.md R49): a bus address, a width in bytes,
and the value written (none: a read). -/
structure BusAccess where
  addr  : Nat
  bytes : Nat
  wdata : Option Word
deriving DecidableEq, Repr

/-- One move of the interleaving of the two agents (00_scope.md R9, 20_memory.md R50): an engine step, a host access, or the
assertion of the reset input RST (70_reset_and_hazards.md R200). -/
inductive Move where
  | engine
  | bus (b : BusAccess)
  | reset
deriving DecidableEq, Repr

/-- The instructions: every row of the opcode table. -/
inductive Instr where
  /-- ZHDR: the two bytes of the zlib header (R63). -/
  | zhdr (cmf flg : BitVec 8)
  /-- BLOCK type=stored: BFINAL, with BTYPE = 0 (R64). -/
  | blockStored (bfinal : BitVec 1)
  /-- BLOCK type=fixed: BFINAL, with BTYPE = 1 (R64). -/
  | blockFixed (bfinal : BitVec 1)
  /-- BLOCK type=dynamic: BFINAL, with BTYPE = 2 (R64). -/
  | blockDynamic (bfinal : BitVec 1)
  /-- BLOCK type=reserved: BFINAL, with BTYPE = 3 (R64). -/
  | blockReserved (bfinal : BitVec 1)
  /-- LENNLEN: the stored block's LEN and NLEN (R65). -/
  | lenNlen (len nlen : BitVec 16)
  /-- DATA: one stored data byte (R65). -/
  | data (b : BitVec 8)
  /-- DYN: the three biased counts of a dynamic header (R66). -/
  | dyn (hlit hdist : BitVec 5) (hclen : BitVec 4)
  /-- CLL: one code-length code length (R66, R67). -/
  | cll (l : BitVec 3)
  /-- CL 16 with its 2 extra bits (R68). -/
  | cl16 (e : BitVec 2)
  /-- CL 17 with its 3 extra bits (R68). -/
  | cl17 (e : BitVec 3)
  /-- CL 18 with its 7 extra bits (R68). -/
  | cl18 (e : BitVec 7)
  -- LEN 265 .. LEN 284 of the fixed code, with the length's extra bits (R70, R73)
  | len265 (e : BitVec 1)
  | len266 (e : BitVec 1)
  | len267 (e : BitVec 1)
  | len268 (e : BitVec 1)
  | len269 (e : BitVec 2)
  | len270 (e : BitVec 2)
  | len271 (e : BitVec 2)
  | len272 (e : BitVec 2)
  | len273 (e : BitVec 3)
  | len274 (e : BitVec 3)
  | len275 (e : BitVec 3)
  | len276 (e : BitVec 3)
  | len277 (e : BitVec 4)
  | len278 (e : BitVec 4)
  | len279 (e : BitVec 4)
  | len280 (e : BitVec 4)
  | len281 (e : BitVec 5)
  | len282 (e : BitVec 5)
  | len283 (e : BitVec 5)
  | len284 (e : BitVec 5)
  -- DIST 4 .. DIST 29 of the fixed code, with the distance's extra bits (R71, R74)
  | dist4 (e : BitVec 1)
  | dist5 (e : BitVec 1)
  | dist6 (e : BitVec 2)
  | dist7 (e : BitVec 2)
  | dist8 (e : BitVec 3)
  | dist9 (e : BitVec 3)
  | dist10 (e : BitVec 4)
  | dist11 (e : BitVec 4)
  | dist12 (e : BitVec 5)
  | dist13 (e : BitVec 5)
  | dist14 (e : BitVec 6)
  | dist15 (e : BitVec 6)
  | dist16 (e : BitVec 7)
  | dist17 (e : BitVec 7)
  | dist18 (e : BitVec 8)
  | dist19 (e : BitVec 8)
  | dist20 (e : BitVec 9)
  | dist21 (e : BitVec 9)
  | dist22 (e : BitVec 10)
  | dist23 (e : BitVec 10)
  | dist24 (e : BitVec 11)
  | dist25 (e : BitVec 11)
  | dist26 (e : BitVec 12)
  | dist27 (e : BitVec 12)
  | dist28 (e : BitVec 13)
  | dist29 (e : BitVec 13)
  /-- LIT of a dynamic table (R69). -/
  | litDyn (v : BitVec 8)
  /-- LEN of a dynamic table: the length index 0..30 and its extra bits (R70). -/
  | lenDyn (idx e : BitVec 5)
  /-- DIST of a dynamic table: the distance symbol 0..29 and its extra bits (R71). -/
  | distDyn (d : BitVec 5) (e : BitVec 13)
  /-- DIST invalid: distance symbol 30 or 31 of a dynamic table (R71). -/
  | distInvalid (d : BitVec 5)
  /-- TRAILER: the zlib trailer word (R75). -/
  | trailer (w : BitVec 32)
  /-- START: a CTRL write with bit 0 = 1 and bit 1 = 0 (R79, R170). -/
  | start (v : BitVec 32)
  /-- ABORT: a CTRL write with bit 1 = 1 (R79, R171). -/
  | abort (v : BitVec 32)
  /-- CONFIG: a CTRL write with bits 1:0 = 00 (R79, R172). -/
  | config (v : BitVec 32)
  /-- CLEAR: a STATUS write (R79, R173). -/
  | clear (v : BitVec 32)
  /-- SETPARAM INDEX (R79, R174). -/
  | setIndex (v : BitVec 32)
  /-- SETPARAM IN_LEN (R79, R174). -/
  | setInLen (v : BitVec 32)
  /-- SETPARAM BUFSIZE (R79, R174). -/
  | setBufSize (v : BitVec 32)
  /-- WRITE read-only or reserved: the offset and the value (R175). -/
  | writeIgnored (off : BitVec 8) (v : BitVec 32)
  /-- READ register at a word offset (R176). -/
  | readReg (off : BitVec 8)
  /-- IN access: a host read or write of the IN window (R177). -/
  | inAccess (a : MemAccess)
  /-- OUT read: a host access to the OUT window; R178 gives its writes beside its reads. -/
  | outAccess (a : MemAccess)
  -- CL 0 .. CL 15: one code length equal to the symbol (R68)
  | cl0
  | cl1
  | cl2
  | cl3
  | cl4
  | cl5
  | cl6
  | cl7
  | cl8
  | cl9
  | cl10
  | cl11
  | cl12
  | cl13
  | cl14
  | cl15
  -- LIT 0x00 .. LIT 0xFF of the fixed code (R69, R73)
  | lit00
  | lit01
  | lit02
  | lit03
  | lit04
  | lit05
  | lit06
  | lit07
  | lit08
  | lit09
  | lit0A
  | lit0B
  | lit0C
  | lit0D
  | lit0E
  | lit0F
  | lit10
  | lit11
  | lit12
  | lit13
  | lit14
  | lit15
  | lit16
  | lit17
  | lit18
  | lit19
  | lit1A
  | lit1B
  | lit1C
  | lit1D
  | lit1E
  | lit1F
  | lit20
  | lit21
  | lit22
  | lit23
  | lit24
  | lit25
  | lit26
  | lit27
  | lit28
  | lit29
  | lit2A
  | lit2B
  | lit2C
  | lit2D
  | lit2E
  | lit2F
  | lit30
  | lit31
  | lit32
  | lit33
  | lit34
  | lit35
  | lit36
  | lit37
  | lit38
  | lit39
  | lit3A
  | lit3B
  | lit3C
  | lit3D
  | lit3E
  | lit3F
  | lit40
  | lit41
  | lit42
  | lit43
  | lit44
  | lit45
  | lit46
  | lit47
  | lit48
  | lit49
  | lit4A
  | lit4B
  | lit4C
  | lit4D
  | lit4E
  | lit4F
  | lit50
  | lit51
  | lit52
  | lit53
  | lit54
  | lit55
  | lit56
  | lit57
  | lit58
  | lit59
  | lit5A
  | lit5B
  | lit5C
  | lit5D
  | lit5E
  | lit5F
  | lit60
  | lit61
  | lit62
  | lit63
  | lit64
  | lit65
  | lit66
  | lit67
  | lit68
  | lit69
  | lit6A
  | lit6B
  | lit6C
  | lit6D
  | lit6E
  | lit6F
  | lit70
  | lit71
  | lit72
  | lit73
  | lit74
  | lit75
  | lit76
  | lit77
  | lit78
  | lit79
  | lit7A
  | lit7B
  | lit7C
  | lit7D
  | lit7E
  | lit7F
  | lit80
  | lit81
  | lit82
  | lit83
  | lit84
  | lit85
  | lit86
  | lit87
  | lit88
  | lit89
  | lit8A
  | lit8B
  | lit8C
  | lit8D
  | lit8E
  | lit8F
  | lit90
  | lit91
  | lit92
  | lit93
  | lit94
  | lit95
  | lit96
  | lit97
  | lit98
  | lit99
  | lit9A
  | lit9B
  | lit9C
  | lit9D
  | lit9E
  | lit9F
  | litA0
  | litA1
  | litA2
  | litA3
  | litA4
  | litA5
  | litA6
  | litA7
  | litA8
  | litA9
  | litAA
  | litAB
  | litAC
  | litAD
  | litAE
  | litAF
  | litB0
  | litB1
  | litB2
  | litB3
  | litB4
  | litB5
  | litB6
  | litB7
  | litB8
  | litB9
  | litBA
  | litBB
  | litBC
  | litBD
  | litBE
  | litBF
  | litC0
  | litC1
  | litC2
  | litC3
  | litC4
  | litC5
  | litC6
  | litC7
  | litC8
  | litC9
  | litCA
  | litCB
  | litCC
  | litCD
  | litCE
  | litCF
  | litD0
  | litD1
  | litD2
  | litD3
  | litD4
  | litD5
  | litD6
  | litD7
  | litD8
  | litD9
  | litDA
  | litDB
  | litDC
  | litDD
  | litDE
  | litDF
  | litE0
  | litE1
  | litE2
  | litE3
  | litE4
  | litE5
  | litE6
  | litE7
  | litE8
  | litE9
  | litEA
  | litEB
  | litEC
  | litED
  | litEE
  | litEF
  | litF0
  | litF1
  | litF2
  | litF3
  | litF4
  | litF5
  | litF6
  | litF7
  | litF8
  | litF9
  | litFA
  | litFB
  | litFC
  | litFD
  | litFE
  | litFF
  /-- EOB of the fixed code (R69, R73). -/
  | eob
  -- LEN 257 .. LEN 264 and LEN 285 .. LEN 287 of the fixed code, which have no extra bits (R70, R73)
  | len257
  | len258
  | len259
  | len260
  | len261
  | len262
  | len263
  | len264
  | len285
  | len286
  | len287
  -- DIST 0 .. DIST 3 of the fixed code, which have no extra bits (R71, R74)
  | dist0
  | dist1
  | dist2
  | dist3
  /-- DIST invalid 11110: the fixed distance code that selects the empty slot 15 (R74). -/
  | distInvalid11110
  /-- DIST invalid 11111: the fixed distance code that selects the empty slot 31 (R74). -/
  | distInvalid11111
  /-- EOB of a dynamic table (R69). -/
  | eobDyn
  /-- START step: the initialisation a START performs (R110). -/
  | startStep
  /-- DYNBUILD: the build of a dynamic block's two tables (R119). -/
  | dynbuild
  /-- FINISH: the end of a decode (R120). -/
  | finish
  /-- RST: the reset input (R200). -/
  | rst
deriving DecidableEq, Repr

end Sys2Proof
end

