-- ==== Sys2Proof/Machine/Operands.lean ====
section
/-! DEFINITION. Operand forms: the constants of the spec (00_scope.md R5), the bit reversal of R6, the constant tables of the
stream's alphabets (30_encoding.md R67 to R74) and the widths of host accesses. -/

namespace Sys2Proof

/-- `rev_n(v)` (00_scope.md R6): the low n bits of v reversed, the bits of v at n and above ignored. -/
def revBits : Nat → Nat → Nat
  | 0, _ => 0
  | n + 1, v => (v % 2) * 2 ^ n + revBits n (v / 2)

/-- STORED_GROW_RATIO (00_scope.md R5). -/
def storedGrowRatio : Nat := 2

/-- ADLER_CHUNK (00_scope.md R5). -/
def adlerChunk : Nat := 1024

/-- ADLER_MOD (00_scope.md R5). -/
def adlerMod : Nat := 65521

/-- The bytes of the register window: offsets 0x00 to 0xFF (20_memory.md R49). -/
def regWindowSize : Nat := 0x100

/-- ORDER (30_encoding.md R67): the code-length symbol whose length the i-th 3-bit value gives. -/
def clOrder : List Nat := [16, 17, 18, 0, 8, 7, 9, 6, 10, 5, 11, 4, 12, 3, 13, 2, 14, 1, 15]

/-- The extra bits of a code-length symbol (30_encoding.md R68); every symbol above 17 is read as 18 (42_block_decoder.md section 6). -/
def clExtraBits (sym : Nat) : Nat :=
  if sym ≤ 15 then 0 else if sym = 16 then 2 else if sym = 17 then 3 else 7

/-- LBASE, idx 0..30 (30_encoding.md R70). -/
def lbaseTable : List Nat :=
  [3, 4, 5, 6, 7, 8, 9, 10, 11, 13, 15, 17, 19, 23, 27, 31, 35, 43, 51, 59, 67, 83, 99, 115, 131, 163, 195, 227, 258, 258, 258]

/-- LEXT, idx 0..30 (30_encoding.md R70). -/
def lextTable : List Nat :=
  [0, 0, 0, 0, 0, 0, 0, 0, 1, 1, 1, 1, 2, 2, 2, 2, 3, 3, 3, 3, 4, 4, 4, 4, 5, 5, 5, 5, 0, 0, 0]

/-- DBASE, d 0..29 (30_encoding.md R71). -/
def dbaseTable : List Nat :=
  [1, 2, 3, 4, 5, 7, 9, 13, 17, 25, 33, 49, 65, 97, 129, 193, 257, 385, 513, 769, 1025, 1537, 2049, 3073, 4097, 6145, 8193, 12289,
   16385, 24577]

/-- DEXT, d 0..29 (30_encoding.md R71). -/
def dextTable : List Nat :=
  [0, 0, 0, 0, 1, 1, 2, 2, 3, 3, 4, 4, 5, 5, 6, 6, 7, 7, 8, 8, 9, 9, 10, 10, 11, 11, 12, 12, 13, 13]

/-- LBASE[idx]. -/
def lengthBase (idx : Nat) : Nat := lbaseTable.getD idx 258

/-- LEXT[idx]. -/
def lengthExtraBits (idx : Nat) : Nat := lextTable.getD idx 0

/-- DBASE[d]. -/
def distanceBase (d : Nat) : Nat := dbaseTable.getD d 0

/-- DEXT[d]. -/
def distanceExtraBits (d : Nat) : Nat := dextTable.getD d 0

/-- The fixed literal/length code of symbol s as (length, code) (30_encoding.md R73). -/
def fixedLitLenCode (s : Nat) : Nat × Nat :=
  if s ≤ 143 then (8, 0x30 + s)
  else if s ≤ 255 then (9, 0x190 + (s - 144))
  else if s ≤ 279 then (7, s - 256)
  else (8, 0xC0 + (s - 280))

/-- The code lengths of the fixed literal/length code, symbols 0..287 (30_encoding.md R73, 41_huffman_builder.md R105). -/
def fixedLitLenLengths : List Nat :=
  List.replicate 144 8 ++ List.replicate 112 9 ++ List.replicate 24 7 ++ List.replicate 8 8

/-- The code lengths of the fixed distance code: 30 symbols of length 5 (30_encoding.md R74, 41_huffman_builder.md R106). -/
def fixedDistanceLengths : List Nat := List.replicate 30 5

/-- The bytes of a width. -/
def Width.bytes : Width → Nat
  | .one => 1
  | .two => 2
  | .four => 4

/-- The width of a number of bytes; none for a number no memory access may have (20_memory.md R47). -/
def Width.ofBytes : Nat → Option Width
  | 1 => some .one
  | 2 => some .two
  | 4 => some .four
  | _ => none

/-- 20_memory.md R47: the offset is a multiple of the width, and the access lies wholly inside a window of `size` bytes. -/
def MemAccess.legal (size : Nat) (a : MemAccess) : Bool :=
  a.offset % a.width.bytes == 0 && a.offset + a.width.bytes ≤ size

end Sys2Proof
end

