-- ==== Sys2Proof/Machine/Huffman.lean ====
section
/-! DEFINITION. The canonical Huffman table builder (41_huffman_builder.md R100 to R107) and the two fixed tables. -/

namespace Sys2Proof.Machine

/-- A table value (00_scope.md R8): the 2^max slot words, and the longest and shortest code lengths, 4 bits each (10_state.md R28). -/
structure Table where
  max   : BitVec 4
  min   : BitVec 4
  slots : List Word
deriving DecidableEq, Repr

/-- A slot word, `(length << 16) | symbol` (R8). -/
def slotWord (len sym : Nat) : Word := BitVec.ofNat 32 (len <<< 16 ||| sym)

/-- `len(w) = w >> 16` (R8). -/
def slotLen (w : Word) : Nat := w.toNat >>> 16

/-- `sym(w) = w & 0xFFFF` (R8). -/
def slotSym (w : Word) : Nat := w.toNat &&& 0xFFFF

/-- `T.slot[j]`; an index past the table, which no read of a built table makes, is an empty slot (assumption 14). -/
def Table.slot (t : Table) (j : Nat) : Word := t.slots.getD j 0

/-- Stage 1 (R100): the longest code length, 0 when all are 0. -/
def maxLength (lengths : List Nat) : Nat := lengths.foldl Nat.max 0

/-- Stage 1 (R100): the shortest non-zero code length, 0 when all are 0. -/
def minLength (lengths : List Nat) : Nat :=
  lengths.foldl (fun m l => if l = 0 then m else if m = 0 then l else Nat.min m l) 0

/-- Stage 4 (R103): write w into the slots r, r + stride, r + 2*stride, … of a slot list whose first slot is number j. -/
def fillSlots (stride r : Nat) (w : Word) : Nat → List Word → List Word
  | _, [] => []
  | j, x :: xs => (if j % stride = r then w else x) :: fillSlots stride r w (j + 1) xs

/-- Stages 3 and 4 for one length bl (R102, R103): the symbols from i on, in index order; gives the next code and the slots. -/
def assignLength (bl : Nat) : Nat → List Nat → Nat → List Word → Nat × List Word
  | _, [], code, slots => (code, slots)
  | i, l :: ls, code, slots =>
    if l = bl then assignLength bl (i + 1) ls (code + 1) (fillSlots (2 ^ bl) (revBits bl code) (slotWord bl i) 0 slots)
    else assignLength bl (i + 1) ls code slots

/-- Stages 3 and 4 (R102, R103) for n lengths from bl on, the code doubled at each. -/
def assignLengths (lengths : List Nat) : Nat → Nat → Nat → List Word → List Word
  | 0, _, _, slots => slots
  | n + 1, bl, code, slots =>
    assignLengths lengths n (bl + 1) ((assignLength bl 0 lengths code slots).1 <<< 1) (assignLength bl 0 lengths code slots).2

/-- `buildTable(lengths)` (R100 to R103): every slot starts empty (R101), then the codes are assigned and filled. -/
def buildTable (lengths : List Nat) : Table :=
  { max := BitVec.ofNat 4 (maxLength lengths)
    min := BitVec.ofNat 4 (minLength lengths)
    slots := assignLengths lengths (maxLength lengths) 1 0 (List.replicate (2 ^ maxLength lengths) 0) }

/-- The n slot words from number j on, by a rule that gives each. -/
def tabulate (f : Nat → Word) : Nat → Nat → List Word
  | 0, _ => []
  | n + 1, j => f j :: tabulate f n (j + 1)

/-- The word of slot j of FLIT (R105). -/
def flitWord (j : Nat) : Word :=
  if revBits 7 (j % 0x80) ≤ 23 then slotWord 7 (256 + revBits 7 (j % 0x80))
  else if 0x30 ≤ revBits 8 (j % 0x100) ∧ revBits 8 (j % 0x100) ≤ 0xBF then slotWord 8 (revBits 8 (j % 0x100) - 0x30)
  else if 0xC0 ≤ revBits 8 (j % 0x100) ∧ revBits 8 (j % 0x100) ≤ 0xC7 then slotWord 8 (280 + revBits 8 (j % 0x100) - 0xC0)
  else slotWord 9 (144 + revBits 9 j - 0x190)

/-- FLIT, the fixed literal/length table in its 512-word ROM (R105). -/
def flit : Table := { max := 9, min := 7, slots := tabulate flitWord 512 0 }

/-- The word of slot j of FDIST: slots 15 and 31 are empty (R106). -/
def fdistWord (j : Nat) : Word := if revBits 5 j < 30 then slotWord 5 (revBits 5 j) else 0

/-- FDIST, the fixed distance table in its 32-word ROM (R106). -/
def fdist : Table := { max := 5, min := 5, slots := tabulate fdistWord 32 0 }

end Sys2Proof.Machine
end

