-- ==== Sys2Proof/Machine/BitReader.lean ====
section
/-! DEFINITION. The bit reader (40_bitreader.md R90 to R95) over its own three registers and the input bytes.

The operations take the input as `byte` (the byte at an IN address; none where the address does not exist) and `len` (IN_LEN). They
compute with natural numbers, as R6 does ("exact, over unbounded integers"); State holds the registers at their widths. -/

namespace Sys2Proof.Machine

/-- IP, BITCNT and BITBUF (10_state.md R21, R22). -/
structure Reader where
  ip  : Nat
  cnt : Nat
  buf : Nat
deriving DecidableEq, Repr

/-- What a read of the bit reader answers: a value, a raise with the refills done before it standing (00_scope.md R7), or an IN
address that does not exist (assumption 12). -/
inductive Read (α : Type) where
  | ok (a : α) (r : Reader)
  | raise (e : ErrorCode) (r : Reader)
  | noByte (a : Nat)
deriving DecidableEq, Repr

/-- Refill1 (R90): the byte at IP lands above the buffered bits. -/
def Reader.refill (r : Reader) (b : Byte) : Reader :=
  { ip := r.ip + 1, cnt := r.cnt + 8, buf := r.buf ||| b.toNat <<< r.cnt }

/-- Refill while BITCNT < need and IP < IN_LEN; running out of input ends it without an error. `fuel = need` is always enough: each
pass adds 8 bits. -/
def fillTo (byte : Nat → Option Byte) (len need : Nat) : Nat → Reader → Read Unit
  | 0, r => .ok () r
  | fuel + 1, r =>
    if r.cnt < need ∧ r.ip < len then
      match byte r.ip with
      | some b => fillTo byte len need fuel (r.refill b)
      | none => .noByte r.ip
    else .ok () r

/-- Take n bits off the accumulator. -/
def Reader.consume (r : Reader) (n : Nat) : Reader := { r with cnt := r.cnt - n, buf := r.buf >>> n }

/-- readBits(n) (R91). -/
def readBits (byte : Nat → Option Byte) (len n : Nat) (r : Reader) : Read Nat :=
  match fillTo byte len n n r with
  | .ok _ r => if r.cnt < n then .raise .truncatedInput r else .ok (r.buf % 2 ^ n) (r.consume n)
  | .raise e r => .raise e r
  | .noByte a => .noByte a

/-- The slot word that the window of the next T.max bits selects (R92). -/
def Table.select (t : Table) (r : Reader) : Word := t.slot (r.buf % 2 ^ t.max.toNat)

/-- readCodeByTable(T) (R92): the InvalidCode test comes before the TruncatedInput test. -/
def readCode (byte : Nat → Option Byte) (len : Nat) (t : Table) (r : Reader) : Read Nat :=
  match fillTo byte len t.max.toNat t.max.toNat r with
  | .ok _ r =>
    if slotLen (t.select r) = 0 then .raise .invalidCode r
    else if r.cnt < slotLen (t.select r) then .raise .truncatedInput r
    else .ok (slotSym (t.select r)) (r.consume (slotLen (t.select r)))
  | .raise e r => .raise e r
  | .noByte a => .noByte a

/-- byteAlign (R93): the buffered bits are discarded, IP is not changed. -/
def Reader.byteAlign (r : Reader) : Reader := { r with cnt := 0, buf := 0 }

/-- eobRewind (R94): every whole byte still buffered is given back. -/
def Reader.eobRewind (r : Reader) : Reader :=
  { ip := r.ip - r.cnt / 8, cnt := r.cnt % 8, buf := r.buf % 2 ^ (r.cnt % 8) }

/-- One whole byte read directly at IP, as the header, stored and trailer elements do (R111, R113, R163). -/
def readByte (byte : Nat → Option Byte) (r : Reader) : Read Byte :=
  match byte r.ip with
  | some b => .ok b { r with ip := r.ip + 1 }
  | none => .noByte r.ip

end Sys2Proof.Machine
end

