-- ==== Sys2Proof/Config.lean ====
section
/-! DEFINITION. The configuration: the parameters the spec leaves OPEN (00_scope.md R5), and the free values, which stand for what
the spec calls unspecified (93_implementation_defined.md section 2). -/

namespace Sys2Proof

/-- The OPEN parameters of 00_scope.md R5, which "a model takes each ... as an argument": a state carries them as a constant that
no step changes (assumption 1). -/
structure Params where
  inMemSize  : Nat
  outMemSize : Nat
  regBase    : Nat
  inBase     : Nat
  outBase    : Nat
deriving DecidableEq, Repr

/-- 20_memory.md R49: two address ranges, each a base and a size, do not meet. -/
abbrev disjointRanges (b₁ n₁ b₂ n₂ : Nat) : Prop := b₁ + n₁ ≤ b₂ ∨ b₂ + n₂ ≤ b₁

/-- The parameters are ones R5 allows: both sizes in 1..2^31, and three disjoint windows (20_memory.md R49). -/
abbrev Params.wf (p : Params) : Prop :=
  1 ≤ p.inMemSize ∧ p.inMemSize ≤ 2 ^ 31 ∧ 1 ≤ p.outMemSize ∧ p.outMemSize ≤ 2 ^ 31 ∧
  disjointRanges p.regBase 0x100 p.inBase p.inMemSize ∧ disjointRanges p.regBase 0x100 p.outBase p.outMemSize ∧
  disjointRanges p.inBase p.inMemSize p.outBase p.outMemSize

namespace Config

/-- DESIGN CHOICE (assumption 1): the parameters of State.reset. The sizes are those 95_test_vectors.md section 2 takes; no
statement rests on them but as a witness. -/
def reference : Params :=
  { inMemSize := 0x100000, outMemSize := 0x100000, regBase := 0x000000, inBase := 0x100000, outBase := 0x200000 }

/-- FREE VALUE (assumption 5): the byte that address a of IN holds after power-on, before anything writes it (10_state.md R31). -/
opaque powerOnIn : Nat → Byte

/-- FREE VALUE (assumptions 5, 18): in draw n, the byte of OUT at address a where nothing has written: after power-on (10_state.md
R31), and at OP and above during a decode and from OUT_LEN on after it (20_memory.md R42, 46_host_commands.md R178). -/
opaque freeOut : Nat → Nat → Byte

/-- FREE VALUE (assumption 7): what a read of the result register at a window offset returns while BUSY = 1 (10_state.md R32), in
each stretch of the run without an engine step or a host write. -/
opaque busyRead : Nat → BitVec 8 → Word

end Config

end Sys2Proof
end

