-- ==== Sys2Proof/Machine/State.lean ====
section
/-! DEFINITION. The state of the engine (10_state.md), the reasons a step can stop, and the state right after reset. -/

namespace Sys2Proof.Machine

/-- The engine state register S (10_state.md R20). -/
inductive Fsm where
  | idle
  | zhdr
  | bhdr
  | stored
  | dynhdr
  | clens
  | dynbuild
  | body
  | finish
  | done
  | error
deriving DecidableEq, Repr

/-- MODEL'S OWN (assumption 4): the part of an engine step still to run. The spec makes a whole element one atomic step (00_scope.md
R9) and its opcode table gives the element's parts rows of their own; the local variables of the rule stand here between two parts.
Between two steps it is `none`. -/
inductive Pending where
  | none
  /-- the initialisation of a START write (46_host_commands.md R170) -/
  | startStep
  /-- the data bytes of a stored block still to copy (42_block_decoder.md R113) -/
  | storedData (left : Nat)
  /-- the code-length code lengths of a dynamic header, the next one number i (42_block_decoder.md R114) -/
  | clLengths (i : Nat)
  /-- the distance of a pair whose length is read (43_lz77_copy.md R143) -/
  | distance (length : Nat)
  /-- the trailer check of FINISH (42_block_decoder.md R120) -/
  | trailer
deriving DecidableEq, Repr

/-- A byte memory: the bytes something has written, as (address, byte) pairs with strictly rising addresses. An address that is not
listed reads as a free value (assumptions 5, 18). -/
abbrev Mem := List Host.Cell

/-- The canonical form of a memory: the addresses rise strictly. -/
abbrev Mem.wf (m : Mem) : Prop := (m.map Prod.fst).Pairwise (· < ·)

/-- Everything the spec gives the block, and the model's own fields that INVENTORY.md names. -/
structure State where
  /-- the OPEN parameters (00_scope.md R5), constant (assumption 1) -/
  par : Params
  -- host-visible registers (10_state.md section 1)
  /-- CTRL.MODE (R11): true is 1, the zlib container -/
  mode : Bool
  /-- CTRL.VERIFY (R11) -/
  verify : Bool
  /-- CTRL.IE (R11) -/
  ie : Bool
  /-- STATUS.DONE (R12) -/
  done : Bool
  /-- STATUS.ERR (R12) -/
  err : Bool
  /-- STATUS.ERRCODE (R12) -/
  errCode : BitVec 8
  /-- INDEX (R13) -/
  index : Word
  /-- IN_LEN (R14) -/
  inLen : Word
  /-- BUFSIZE (R15) -/
  bufSize : Word
  /-- OUT_LEN (R16) -/
  outLen : Word
  /-- ADLER (R17) -/
  adler : Word
  /-- TRAILER (R18) -/
  trailer : Word
  /-- ERR_IP (R19) -/
  errIp : Word
  /-- ERR_OP (R19) -/
  errOp : Word
  -- internal datapath (10_state.md section 2)
  /-- S (R20) -/
  fsm : Fsm
  /-- IP (R21) -/
  ip : Word
  /-- BITCNT (R21) -/
  bitCnt : BitVec 6
  /-- BITBUF (R22) -/
  bitBuf : Word
  /-- OP (R23) -/
  op : Word
  /-- CAP (R24) -/
  cap : Word
  /-- BFINAL (R25) -/
  bfinal : BitVec 1
  /-- BTYPE (R25) -/
  btype : BitVec 2
  /-- HLIT (R26) -/
  hlit : BitVec 9
  /-- HDIST (R26) -/
  hdist : BitVec 6
  /-- HCLEN (R26) -/
  hclen : BitVec 5
  /-- CLIDX (R26) -/
  clIdx : BitVec 9
  /-- PREV (R26) -/
  prev : BitVec 4
  /-- CLLEN (R27) -/
  clLen : Vector (BitVec 3) 19
  /-- LENS (R27) -/
  lens : Vector (BitVec 4) 320
  /-- CLT (R28) -/
  clt : Table
  /-- LITT (R28) -/
  litt : Table
  /-- DISTT (R28) -/
  distt : Table
  /-- the IN memory (20_memory.md R40) -/
  inMem : Mem
  /-- the OUT memory (20_memory.md R40): the bytes written since power-on or since the last START, whichever came later; the others are
  free values (20_memory.md R42, assumption 18) -/
  outMem : Mem
  -- the model's own
  /-- the rest of the running step (assumption 4) -/
  pend : Pending
  /-- the refusal mark of 70_reset_and_hazards.md R207 (assumption 9) -/
  refusedMark : Bool
  /-- the value the host's last read returned (assumption 8) -/
  readData : Word
  /-- which free values reads of busy result registers return; an engine step and a host write advance it (assumption 7) -/
  epoch : Nat
  /-- which free values the bytes of OUT hold where nothing has written; START, and while BUSY = 1 an engine step and a host write,
  advance it (assumption 18) -/
  outDraw : Nat
  /-- the moves of the interleaving still to come, the next one first (assumption 2) -/
  script : List Move
deriving DecidableEq, Repr

/-- The reasons the machine stops. -/
inductive Fault where
  /-- No agent has a move: the script is empty and S is IDLE, DONE or ERROR (42_block_decoder.md R121; 93_implementation_defined.md
  section 2 row 10, `stuck`). Raised by Machine/Fetch.lean. Safe: the machine stops where the spec has no step. -/
  | quiescent
  /-- A byte access at an IN address that does not exist (20_memory.md R40). Raised by the bit reader's byte reads. Safe: no run
  reaches it (assumption 12). -/
  | noInAddress (a : Nat)
  /-- A byte access at an OUT address that does not exist (20_memory.md R40). Raised by the engine's OUT reads and writes. Safe: no
  run reaches it (assumption 12). -/
  | noOutAddress (a : Nat)
deriving DecidableEq, Repr

/-- The reasons an instruction has no meaning in a state. -/
inductive Refusal where
  /-- The instruction has no meaning yet. Answered by exec's arms only. Safe. -/
  | notModelled (mnemonic : String)
  /-- A host write to IN or OUT while BUSY = 1: "the model's host has no such move" (46_host_commands.md R177, R178). Answered by the
  two window meanings. Safe: nothing is proved of a run that makes it (assumption 10). -/
  | hostWriteWhileBusy
deriving DecidableEq, Repr

/-- The reset values of 10_state.md R31 under the parameters p, with nothing written to the memories (assumptions 5, 6, 24). -/
def State.resetWith (p : Params) : State :=
  { par := p
    mode := true, verify := false, ie := false
    done := false, err := false, errCode := 0
    index := 0, inLen := 0, bufSize := 32768
    outLen := 0, adler := 0, trailer := 0, errIp := 0, errOp := 0
    fsm := .idle
    ip := 0, bitCnt := 0, bitBuf := 0, op := 0, cap := 0
    bfinal := 0, btype := 0, hlit := 0, hdist := 0, hclen := 0, clIdx := 0, prev := 0
    clLen := Vector.replicate 19 0, lens := Vector.replicate 320 0
    clt := { max := 0, min := 0, slots := [0] }
    litt := flit, distt := fdist
    inMem := [], outMem := []
    pend := .none, refusedMark := false, readData := 0, epoch := 0, outDraw := 0, script := [] }

/-- The machine right after reset (10_state.md R31, 70_reset_and_hazards.md R200). -/
def State.reset : State := State.resetWith Config.reference

end Sys2Proof.Machine
end

