-- ==== Sys2Proof/Machine/Flags.lean ====
section
/-! DEFINITION. The flags: BUSY, the words of CTRL and STATUS, the IRQ output, and every write of a flag (10_state.md R11, R12, R20,
R29; 46_host_commands.md R172, R173). -/

namespace Sys2Proof.Machine

/-- The running states (10_state.md R20). -/
def Fsm.running : Fsm → Bool
  | .zhdr | .bhdr | .stored | .dynhdr | .clens | .dynbuild | .body | .finish => true
  | .idle | .done | .error => false

/-- STATUS.BUSY: 1 exactly when S is a running state (10_state.md R12). -/
def State.busy (s : State) : Bool := s.fsm.running

/-- IRQ = CTRL.IE & (STATUS.DONE | STATUS.ERR) (10_state.md R29). -/
def State.irq (s : State) : Bool := s.ie && (s.done || s.err)

/-- CTRL as the host reads it: MODE bit 2, VERIFY bit 3, IE bit 4, every other bit 0 (10_state.md R11). -/
def State.ctrlWord (s : State) : Word :=
  0#27 ++ BitVec.ofBool s.ie ++ BitVec.ofBool s.verify ++ BitVec.ofBool s.mode ++ 0#2

/-- STATUS as the host reads it: BUSY bit 0, DONE bit 1, ERR bit 2, ERRCODE bits 15:8, every other bit 0 (10_state.md R12). -/
def State.statusWord (s : State) : Word :=
  0#16 ++ s.errCode ++ 0#5 ++ BitVec.ofBool s.err ++ BitVec.ofBool s.done ++ BitVec.ofBool s.busy

/-- The option fields of a CTRL write: IE always, MODE and VERIFY when BUSY = 0 (46_host_commands.md R172). -/
def State.writeOptions (s : State) (v : Word) : State :=
  if s.busy then { s with ie := v.getLsbD 4 }
  else { s with ie := v.getLsbD 4, mode := v.getLsbD 2, verify := v.getLsbD 3 }

/-- A STATUS write: bit 1 clears DONE, bit 2 clears ERR (46_host_commands.md R173). -/
def State.clearStatus (s : State) (v : Word) : State :=
  { s with done := s.done && !v.getLsbD 1, err := s.err && !v.getLsbD 2 }

/-- The flags of an error entry: ERR is set, ERRCODE holds the code, DONE is not written (60_exceptions.md R182). -/
def State.setError (s : State) (e : ErrorCode) : State := { s with err := true, errCode := e.code }

/-- The flag of a completed decode (42_block_decoder.md R120). -/
def State.setDone (s : State) : State := { s with done := true }

/-- The flags a START clears (42_block_decoder.md R110). -/
def State.clearFlags (s : State) : State := { s with done := false, err := false, errCode := 0 }

end Sys2Proof.Machine
end

