-- ==== Sys2Proof/Machine/Ops.lean ====
section
/-! DEFINITION. The named operations over the memories and the registers: byte memory, the engine's reads and writes, host window
accesses, register reads, taking an error, leaving it by START, and RST. -/

namespace Sys2Proof.Machine

/-! ## What a piece of a step answers -/

/-- What an engine operation answers: it goes on, it raises an error with the writes done before it standing (00_scope.md R7), or it
stops at an address that does not exist. -/
inductive Res where
  | ok (s : State)
  | raise (e : ErrorCode) (s : State)
  | fault (f : Fault)
deriving DecidableEq, Repr

/-- Nothing after a raise is performed (00_scope.md R7). -/
def Res.andThen (x : Res) (k : State → Res) : Res :=
  match x with
  | .ok s => k s
  | .raise e s => .raise e s
  | .fault f => .fault f

/-! ## Byte memory -/

/-- The byte written last at an address; none if nothing wrote there. -/
def Mem.get : Mem → Nat → Option Byte
  | [], _ => none
  | (c, x) :: m, a => if a = c then some x else Mem.get m a

/-- Write a byte, keeping the addresses strictly rising. -/
def Mem.put : Mem → Nat → Byte → Mem
  | [], a, b => [(a, b)]
  | (c, x) :: m, a, b =>
    if a < c then (a, b) :: (c, x) :: m
    else if a = c then (a, b) :: m
    else (c, x) :: Mem.put m a b

/-- The byte of IN at an address: what was written there, or the free power-on byte (10_state.md R31). -/
def State.inByte (s : State) (a : Nat) : Byte := (s.inMem.get a).getD (Config.powerOnIn a)

/-- The byte of OUT at an address: what was written there, or a free value of the current draw (10_state.md R31, 20_memory.md R42). -/
def State.outByte (s : State) (a : Nat) : Byte := (s.outMem.get a).getD (Config.freeOut s.outDraw a)

/-- `MemRead(IN, a, 1)`; none where the address does not exist (20_memory.md R40, R41). -/
def State.readIn (s : State) (a : Nat) : Option Byte := if a < s.par.inMemSize then some (s.inByte a) else none

/-- `MemWrite(OUT, OP, 1, b)` and OP + 1: the one way the engine writes OUT (20_memory.md R42). -/
def State.emit (s : State) (b : Byte) : Res :=
  if s.op.toNat < s.par.outMemSize then .ok { s with outMem := s.outMem.put s.op.toNat b, op := s.op + 1 }
  else .fault (.noOutAddress s.op.toNat)

/-- Forward copy (43_lz77_copy.md R144): byte by byte, each read after every earlier write. -/
def copyForward (dist : Nat) : Nat → State → Res
  | 0, s => .ok s
  | n + 1, s =>
    if s.op.toNat - dist < s.par.outMemSize then (s.emit (s.outByte (s.op.toNat - dist))).andThen (copyForward dist n)
    else .fault (.noOutAddress (s.op.toNat - dist))

/-- The n bytes of OUT from an address on. -/
def State.outBytes (s : State) : Nat → Nat → List Byte
  | 0, _ => []
  | n + 1, a => s.outByte a :: s.outBytes n (a + 1)

/-! ## The bit reader's registers -/

/-- IP, BITCNT and BITBUF as the bit reader takes them. -/
def State.reader (s : State) : Reader := { ip := s.ip.toNat, cnt := s.bitCnt.toNat, buf := s.bitBuf.toNat }

/-- IP, BITCNT and BITBUF as the bit reader leaves them, at their register widths (10_state.md R21, R22). -/
def State.withReader (s : State) (r : Reader) : State :=
  { s with ip := BitVec.ofNat 32 r.ip, bitCnt := BitVec.ofNat 6 r.cnt, bitBuf := BitVec.ofNat 32 r.buf }

/-- BITPOS: BP = 8*IP - BITCNT, modulo 2^32 (10_state.md R21). -/
def State.bitPos (s : State) : Word := (s.ip <<< 3) - s.bitCnt.setWidth 32

/-! ## The step in progress -/

/-- Leave a part of the running step to be run next (assumption 4). -/
def State.setPend (s : State) (p : Pending) : State := { s with pend := p }

/-- Go to an engine state, the step's parts all run. -/
def State.goTo (s : State) (f : Fsm) : State := { s with fsm := f, pend := .none }

/-- The end of a block: FINISH after the final one, else the next header (R113, R142). -/
def State.blockEnd (s : State) : State := s.goTo (if s.bfinal = 1 then .finish else .bhdr)

/-- The length of a pair whose distance is to be read. -/
def Pending.length : Pending → Nat
  | .distance n => n
  | _ => 0

/-- The stored data bytes still to copy. -/
def Pending.dataLeft : Pending → Nat
  | .storedData n => n
  | _ => 0

/-- The number of the next code-length code length. -/
def Pending.clNumber : Pending → Nat
  | .clLengths i => i
  | _ => 0

/-! ## Taking an error, and leaving it -/

/-- Error entry (60_exceptions.md R182): the one operation every raise and every ABORT ends in. DONE, CAP, ADLER, TRAILER, OUT and
the internal registers keep their values. -/
def State.enterError (s : State) (e : ErrorCode) : State :=
  { s.setError e with fsm := .error, errIp := s.ip, errOp := s.op, outLen := 0, pend := .none }

/-- START initialisation (42_block_decoder.md R110). It is also the one way out of ERROR: there is no return into the decode that
failed (60_exceptions.md R186). OUT is not cleared, but from here on its bytes at OP and above, all of them, are unspecified
(20_memory.md R42): they are drawn, and only a byte written again is listed (assumption 18). -/
def State.startInit (s : State) : State :=
  { s.clearFlags with
    ip := s.index, bitBuf := 0, bitCnt := 0
    op := 0, cap := BitVec.ofNat 32 (Nat.min s.bufSize.toNat s.par.outMemSize)
    bfinal := 0, btype := 0
    hlit := 0, hdist := 0, hclen := 0, clIdx := 0, prev := 0
    litt := flit, distt := fdist
    outLen := 0, adler := 0, trailer := 0, errIp := 0, errOp := 0
    outMem := [], outDraw := s.outDraw + 1
    fsm := if s.mode then .zhdr else .bhdr
    pend := .none }

/-- Successful completion: OUT_LEN and CAP become OP, DONE is set (42_block_decoder.md R120, 44_output_growth.md R154). -/
def State.complete (s : State) : State := { s.setDone with outLen := s.op, cap := s.op, fsm := .done, pend := .none }

/-- RST (70_reset_and_hazards.md R200 to R202): the reset values of 10_state.md R31, while IN, OUT, CLLEN, LENS and the CLT RAM keep
what they held, and with them what is no state of the block (assumption 24). -/
def State.applyReset (s : State) : State :=
  { State.resetWith s.par with
    inMem := s.inMem, outMem := s.outMem, clLen := s.clLen, lens := s.lens
    clt := { max := 0, min := 0, slots := s.clt.slots }
    refusedMark := s.refusedMark, readData := s.readData, epoch := s.epoch, outDraw := s.outDraw
    script := s.script }

/-- The end of an engine operation: a raise takes its error. -/
def Res.finish : Res → Host.Outcome State Fault Refusal
  | .ok s => .next s
  | .raise e s => .next (s.enterError e)
  | .fault f => .fault f

/-! ## Host accesses -/

/-- The refusal mark of an access that 20_memory.md R47 refuses; no state of the block changes (70_reset_and_hazards.md R207). -/
def State.markRefused (s : State) : State := { s with refusedMark := true }

/-- The result registers, whose reads are unspecified while BUSY = 1 (10_state.md R32): OUT_LEN to BITPOS, offsets 0x14 to 0x2C. -/
def isResultOffset (off : BitVec 8) : Bool := 0x14 ≤ off.toNat && off.toNat ≤ 0x2C

/-- The register at a word offset; a reserved offset reads 0 (10_state.md R10, R30). -/
def State.regWord (s : State) (off : BitVec 8) : Word :=
  if off = 0x00 then s.ctrlWord
  else if off = 0x04 then s.statusWord
  else if off = 0x08 then s.index
  else if off = 0x0C then s.inLen
  else if off = 0x10 then s.bufSize
  else if off = 0x14 then s.outLen
  else if off = 0x18 then s.adler
  else if off = 0x1C then s.trailer
  else if off = 0x20 then s.errIp
  else if off = 0x24 then s.errOp
  else if off = 0x28 then s.cap
  else if off = 0x2C then s.bitPos
  else 0

/-- What a host read of a register returns (46_host_commands.md R176): while BUSY = 1 the result registers return a free value. -/
def State.readRegister (s : State) (off : BitVec 8) : Word :=
  if s.busy && isResultOffset off then Config.busyRead s.epoch off else s.regWord off

/-- A little-endian host read of n bytes at address a (20_memory.md R46). -/
def readLittle (byte : Nat → Byte) : Nat → Nat → Nat
  | 0, _ => 0
  | n + 1, a => (byte a).toNat + 2 ^ 8 * readLittle byte n (a + 1)

/-- A little-endian host write of n bytes of v at address a (20_memory.md R46). -/
def putLittle : Nat → Mem → Nat → Nat → Mem
  | 0, m, _, _ => m
  | n + 1, m, a, v => putLittle n (m.put a (BitVec.ofNat 8 v)) (a + 1) (v / 2 ^ 8)

end Sys2Proof.Machine
end

