-- ==== Sys2Proof/Machine/CodeLengths.lean ====
section
/-! DEFINITION. The meanings of the code-length symbols CL 0 .. CL 18 (42_block_decoder.md R115 to R118). -/

namespace Sys2Proof.Machine

/-- `LENS[k] <- v` for the n entries from k on. -/
def fillLens (v : BitVec 4) : Nat → Nat → Vector (BitVec 4) 320 → Vector (BitVec 4) 320
  | 0, _, lens => lens
  | n + 1, k, lens => fillLens v n (k + 1) (lens.setIfInBounds k v)

/-- Write n code lengths v at CLIDX, advance it, and set PREV (R115 to R118). -/
def State.putLens (s : State) (n : Nat) (v prev : BitVec 4) : State :=
  { s with
    lens := fillLens v n s.clIdx.toNat s.lens
    clIdx := BitVec.ofNat 9 (s.clIdx.toNat + n)
    prev := prev }

/-- `if CLIDX == HLIT + HDIST: S <- DYNBUILD`, the last line of every CLENS step. -/
def State.endClStep (s : State) : State :=
  if s.clIdx.toNat = s.hlit.toNat + s.hdist.toNat then s.goTo .dynbuild else s

/-- One code length equal to the symbol (R115). -/
def oneLength (sym : BitVec 4) (s : State) : State := (s.putLens 1 sym sym).endClStep

/-- A repeat of n code lengths v; past HLIT + HDIST it raises CodeLengthOverrun and writes none (R116 to R118). -/
def repeatLength (n : Nat) (v : BitVec 4) (s : State) : Res :=
  if s.hlit.toNat + s.hdist.toNat < s.clIdx.toNat + n then .raise .codeLengthOverrun s
  else .ok (s.putLens n v v).endClStep

/-- CL 0 (R115). -/
def execCl0 (s : State) : Host.Outcome State Fault Refusal := .next (oneLength 0 s)

/-- CL 1 (R115). -/
def execCl1 (s : State) : Host.Outcome State Fault Refusal := .next (oneLength 1 s)

/-- CL 2 (R115). -/
def execCl2 (s : State) : Host.Outcome State Fault Refusal := .next (oneLength 2 s)

/-- CL 3 (R115). -/
def execCl3 (s : State) : Host.Outcome State Fault Refusal := .next (oneLength 3 s)

/-- CL 4 (R115). -/
def execCl4 (s : State) : Host.Outcome State Fault Refusal := .next (oneLength 4 s)

/-- CL 5 (R115). -/
def execCl5 (s : State) : Host.Outcome State Fault Refusal := .next (oneLength 5 s)

/-- CL 6 (R115). -/
def execCl6 (s : State) : Host.Outcome State Fault Refusal := .next (oneLength 6 s)

/-- CL 7 (R115). -/
def execCl7 (s : State) : Host.Outcome State Fault Refusal := .next (oneLength 7 s)

/-- CL 8 (R115). -/
def execCl8 (s : State) : Host.Outcome State Fault Refusal := .next (oneLength 8 s)

/-- CL 9 (R115). -/
def execCl9 (s : State) : Host.Outcome State Fault Refusal := .next (oneLength 9 s)

/-- CL 10 (R115). -/
def execCl10 (s : State) : Host.Outcome State Fault Refusal := .next (oneLength 10 s)

/-- CL 11 (R115). -/
def execCl11 (s : State) : Host.Outcome State Fault Refusal := .next (oneLength 11 s)

/-- CL 12 (R115). -/
def execCl12 (s : State) : Host.Outcome State Fault Refusal := .next (oneLength 12 s)

/-- CL 13 (R115). -/
def execCl13 (s : State) : Host.Outcome State Fault Refusal := .next (oneLength 13 s)

/-- CL 14 (R115). -/
def execCl14 (s : State) : Host.Outcome State Fault Refusal := .next (oneLength 14 s)

/-- CL 15 (R115). -/
def execCl15 (s : State) : Host.Outcome State Fault Refusal := .next (oneLength 15 s)

/-- CL 16: PREV 3 to 6 times, and PREV is unchanged (R116). -/
def execCl16 (e : BitVec 2) (s : State) : Host.Outcome State Fault Refusal := (repeatLength (3 + e.toNat) s.prev s).finish

/-- CL 17: length 0, 3 to 10 times, and PREV becomes 0 (R117). -/
def execCl17 (e : BitVec 3) (s : State) : Host.Outcome State Fault Refusal := (repeatLength (3 + e.toNat) 0 s).finish

/-- CL 18: length 0, 11 to 138 times, and PREV becomes 0 (R118). -/
def execCl18 (e : BitVec 7) (s : State) : Host.Outcome State Fault Refusal := (repeatLength (11 + e.toNat) 0 s).finish

end Sys2Proof.Machine
end

