-- ==== Sys2Proof/Machine/Growth.lean ====
section
/-! DEFINITION. The output capacity growth rule (44_output_growth.md R150 to R155). -/

namespace Sys2Proof.Machine

/-- The estimate (R153): half a longest match for each minimum-length symbol the remaining input could hold, at least doubling. -/
def estimateCapacity (rem minLen cap : Nat) : Nat :=
  Nat.max (cap + (if minLen = 0 then 0 else 129 * rem / minLen)) (2 * cap)

/-- The default new size (R151): by how much input is left compared with how much has been read. -/
def defaultCapacity (rem cons minLen cap : Nat) : Nat :=
  if cons = 0 then 2 * cap
  else if rem < cons then estimateCapacity rem minLen cap
  else cap * (rem + cons) / cons

/-- One pass of the growth loop (R155): the fixed ratio (R152) or the default, the no-progress guard, and the clamp. -/
def growPass (newSize : Nat → Nat) (required outMemSize cap : Nat) : Nat :=
  Nat.min (if newSize cap ≤ cap then required else newSize cap) outMemSize

/-- The growth loop (R155): passes until the pending write fits. A pass raises the capacity by at least 1, so `required - cap` passes
are always enough. -/
def growLoop (newSize : Nat → Nat) (required outMemSize : Nat) : Nat → Nat → Nat
  | 0, cap => cap
  | fuel + 1, cap =>
    if cap < required then growLoop newSize required outMemSize fuel (growPass newSize required outMemSize cap) else cap

/-- The new size of a capacity: a fixed ratio, or the default with rem = IN_LEN - IP and cons = IP - INDEX (R151, R152). -/
def State.newCapacity (s : State) (ratio : Option Nat) (cap : Nat) : Nat :=
  match ratio with
  | some k => cap * k
  | none => defaultCapacity (s.inLen.toNat - s.ip.toNat) (s.ip.toNat - s.index.toNat) s.litt.min.toNat cap

/-- `grow(required, ratio)` (R150, R155). -/
def State.grow (s : State) (required : Nat) (ratio : Option Nat) : Res :=
  if required ≤ s.cap.toNat then .ok s
  else if s.par.outMemSize < required then .raise .outputOverflow s
  else
    .ok { s with
      cap := BitVec.ofNat 32
        (growLoop (s.newCapacity ratio) required s.par.outMemSize (required - s.cap.toNat) s.cap.toNat) }

end Sys2Proof.Machine
end

