-- ==== Sys2Proof/Machine/Distances.lean ====
section
/-! DEFINITION. The meanings of the distance symbols: DIST 0 .. DIST 29 and the invalid distances, of the fixed code and of a dynamic
table, with the match copy (43_lz77_copy.md R143, R144). -/

namespace Sys2Proof.Machine

/-- The check of the distance, the room for the match, and the copy (R143, R144); the pair's length was read by its LEN element. -/
def copyMatch (dist : Nat) (s : State) : Res :=
  if s.op.toNat < dist then .raise .invalidDistance s
  else
    (s.grow (s.op.toNat + s.pend.length) none).andThen fun t =>
      (copyForward dist s.pend.length t).andThen fun u => .ok (u.setPend .none)

/-- `dist <- DBASE[d] + e`, and the match (R143). -/
def distanceElement (d e : Nat) (s : State) : Host.Outcome State Fault Refusal := (copyMatch (distanceBase d + e) s).finish

/-- DIST of a dynamic table (R143). -/
def execDistDyn (d : BitVec 5) (e : BitVec 13) (s : State) : Host.Outcome State Fault Refusal := distanceElement d.toNat e.toNat s

/-- DIST invalid: a dynamic table's symbol 30 or 31 raises InvalidDistance (R143). -/
def execDistInvalid (_d : BitVec 5) (s : State) : Host.Outcome State Fault Refusal := (Res.raise .invalidDistance s).finish

/-- DIST invalid 11110: the empty slot 15 of FDIST raises InvalidCode (40_bitreader.md R92). -/
def execDistInvalid11110 (s : State) : Host.Outcome State Fault Refusal := (Res.raise .invalidCode s).finish

/-- DIST invalid 11111: the empty slot 31 of FDIST raises InvalidCode (40_bitreader.md R92). -/
def execDistInvalid11111 (s : State) : Host.Outcome State Fault Refusal := (Res.raise .invalidCode s).finish

/-! DIST 0 .. DIST 29 of the fixed code (R143). -/

def execDist0 (s : State) : Host.Outcome State Fault Refusal := distanceElement 0 0 s
def execDist1 (s : State) : Host.Outcome State Fault Refusal := distanceElement 1 0 s
def execDist2 (s : State) : Host.Outcome State Fault Refusal := distanceElement 2 0 s
def execDist3 (s : State) : Host.Outcome State Fault Refusal := distanceElement 3 0 s
def execDist4 (e : BitVec 1) (s : State) : Host.Outcome State Fault Refusal := distanceElement 4 e.toNat s
def execDist5 (e : BitVec 1) (s : State) : Host.Outcome State Fault Refusal := distanceElement 5 e.toNat s
def execDist6 (e : BitVec 2) (s : State) : Host.Outcome State Fault Refusal := distanceElement 6 e.toNat s
def execDist7 (e : BitVec 2) (s : State) : Host.Outcome State Fault Refusal := distanceElement 7 e.toNat s
def execDist8 (e : BitVec 3) (s : State) : Host.Outcome State Fault Refusal := distanceElement 8 e.toNat s
def execDist9 (e : BitVec 3) (s : State) : Host.Outcome State Fault Refusal := distanceElement 9 e.toNat s
def execDist10 (e : BitVec 4) (s : State) : Host.Outcome State Fault Refusal := distanceElement 10 e.toNat s
def execDist11 (e : BitVec 4) (s : State) : Host.Outcome State Fault Refusal := distanceElement 11 e.toNat s
def execDist12 (e : BitVec 5) (s : State) : Host.Outcome State Fault Refusal := distanceElement 12 e.toNat s
def execDist13 (e : BitVec 5) (s : State) : Host.Outcome State Fault Refusal := distanceElement 13 e.toNat s
def execDist14 (e : BitVec 6) (s : State) : Host.Outcome State Fault Refusal := distanceElement 14 e.toNat s
def execDist15 (e : BitVec 6) (s : State) : Host.Outcome State Fault Refusal := distanceElement 15 e.toNat s
def execDist16 (e : BitVec 7) (s : State) : Host.Outcome State Fault Refusal := distanceElement 16 e.toNat s
def execDist17 (e : BitVec 7) (s : State) : Host.Outcome State Fault Refusal := distanceElement 17 e.toNat s
def execDist18 (e : BitVec 8) (s : State) : Host.Outcome State Fault Refusal := distanceElement 18 e.toNat s
def execDist19 (e : BitVec 8) (s : State) : Host.Outcome State Fault Refusal := distanceElement 19 e.toNat s
def execDist20 (e : BitVec 9) (s : State) : Host.Outcome State Fault Refusal := distanceElement 20 e.toNat s
def execDist21 (e : BitVec 9) (s : State) : Host.Outcome State Fault Refusal := distanceElement 21 e.toNat s
def execDist22 (e : BitVec 10) (s : State) : Host.Outcome State Fault Refusal := distanceElement 22 e.toNat s
def execDist23 (e : BitVec 10) (s : State) : Host.Outcome State Fault Refusal := distanceElement 23 e.toNat s
def execDist24 (e : BitVec 11) (s : State) : Host.Outcome State Fault Refusal := distanceElement 24 e.toNat s
def execDist25 (e : BitVec 11) (s : State) : Host.Outcome State Fault Refusal := distanceElement 25 e.toNat s
def execDist26 (e : BitVec 12) (s : State) : Host.Outcome State Fault Refusal := distanceElement 26 e.toNat s
def execDist27 (e : BitVec 12) (s : State) : Host.Outcome State Fault Refusal := distanceElement 27 e.toNat s
def execDist28 (e : BitVec 13) (s : State) : Host.Outcome State Fault Refusal := distanceElement 28 e.toNat s
def execDist29 (e : BitVec 13) (s : State) : Host.Outcome State Fault Refusal := distanceElement 29 e.toNat s

end Sys2Proof.Machine
end

