-- ==== Sys2Proof/Machine/Dynamic.lean ====
section
/-! DEFINITION. The meanings of a dynamic header's elements, DYN and CLL, and of DYNBUILD (42_block_decoder.md R114, R119). -/

namespace Sys2Proof.Machine

/-- HLIT, HDIST and HCLEN from their biased fields (30_encoding.md R66). -/
def State.setCounts (s : State) (hlit hdist : BitVec 5) (hclen : BitVec 4) : State :=
  { s with
    hlit := BitVec.ofNat 9 (hlit.toNat + 257)
    hdist := BitVec.ofNat 6 (hdist.toNat + 1)
    hclen := BitVec.ofNat 5 (hclen.toNat + 4) }

/-- DYN (R114): the code-length code lengths follow. -/
def execDyn (hlit hdist : BitVec 5) (hclen : BitVec 4) (s : State) : Host.Outcome State Fault Refusal :=
  .next ((s.setCounts hlit hdist hclen).setPend (.clLengths 0))

/-- `CLLEN[ORDER[i]] <- l` (R114). -/
def State.setClLen (s : State) (i : Nat) (l : BitVec 3) : State :=
  { s with clLen := s.clLen.setIfInBounds (clOrder.getD i 19) l }

/-- The entries that were not sent get length 0 (30_encoding.md R67). -/
def zeroClLens : List Nat → Vector (BitVec 3) 19 → Vector (BitVec 3) 19
  | [], v => v
  | k :: ks, v => zeroClLens ks (v.setIfInBounds k 0)

/-- The end of a dynamic header, `sent` code-length code lengths read (R114): the rest are 0, CLT is built, LENS is cleared. -/
def State.endDynHeader (s : State) (sent : Nat) : State :=
  { s with
    clLen := zeroClLens (clOrder.drop sent) s.clLen
    clt := buildTable ((zeroClLens (clOrder.drop sent) s.clLen).toList.map BitVec.toNat)
    lens := Vector.replicate 320 0
    clIdx := 0, prev := 0 }

/-- After code-length code length number i: the next one, or after HCLEN of them the code-length symbols (R114). -/
def State.nextCll (s : State) (i : Nat) : State :=
  if i + 1 < s.hclen.toNat then s.setPend (.clLengths (i + 1)) else (s.endDynHeader (i + 1)).goTo .clens

/-- CLL (R114). -/
def execCll (l : BitVec 3) (s : State) : Host.Outcome State Fault Refusal :=
  .next ((s.setClLen s.pend.clNumber l).nextCll s.pend.clNumber)

/-- The literal/length code lengths, `LENS[0 .. HLIT-1]` (10_state.md R27). -/
def State.litLenLengths (s : State) : List Nat := (s.lens.toList.take s.hlit.toNat).map BitVec.toNat

/-- The distance code lengths, `LENS[HLIT .. HLIT+HDIST-1]` (10_state.md R27). -/
def State.distanceLengths (s : State) : List Nat :=
  ((s.lens.toList.drop s.hlit.toNat).take s.hdist.toNat).map BitVec.toNat

/-- The two tables of a dynamic block (R119). -/
def State.buildTables (s : State) : State :=
  { s with litt := buildTable s.litLenLengths, distt := buildTable s.distanceLengths }

/-- DYNBUILD (R119). -/
def execDynbuild (s : State) : Host.Outcome State Fault Refusal := .next (s.buildTables.goTo .body)

end Sys2Proof.Machine
end

