-- ==== Sys2Proof/Machine/Adler.lean ====
section
/-! DEFINITION. The Adler-32 datapath (45_adler32.md R160, R161). -/

namespace Sys2Proof.Machine

/-- The two running sums over the bytes of one chunk, with no reduction (R160). -/
def adlerChunkSums : List Byte → Nat × Nat → Nat × Nat
  | [], p => p
  | b :: bs, p => adlerChunkSums bs (p.1 + b.toNat, p.2 + (p.1 + b.toNat))

/-- The chunks of at most 1024 bytes, each reduced mod 65521 once (R160). `fuel` counts the chunks still allowed; one a byte is always
enough. -/
def adlerChunks : Nat → List Byte → Nat × Nat → Nat × Nat
  | 0, _, p => p
  | _ + 1, [], p => p
  | fuel + 1, b :: bs, p =>
    adlerChunks fuel ((b :: bs).drop adlerChunk)
      ((adlerChunkSums ((b :: bs).take adlerChunk) p).1 % adlerMod, (adlerChunkSums ((b :: bs).take adlerChunk) p).2 % adlerMod)

/-- `(s2 << 16) | s1` as a 32-bit value (R160). -/
def packSums (p : Nat × Nat) : Word := BitVec.ofNat 32 (p.2 <<< 16 ||| p.1)

/-- `update(seed, bytes)` (R160). -/
def adlerUpdate (seed : Word) (bs : List Byte) : Word :=
  packSums (adlerChunks bs.length bs (seed.toNat &&& 0xFFFF, (seed.toNat >>> 16) &&& 0xFFFF))

/-- `calc(bytes) = update(1, bytes)` (R161). -/
def adlerCalc (bs : List Byte) : Word := adlerUpdate 1 bs

end Sys2Proof.Machine
end

