-- ==== Sys2Proof/Machine/Finish.lean ====
section
/-! DEFINITION. The meanings of the engine's steps at the two ends of a decode: START step, FINISH and TRAILER (42_block_decoder.md
R110, R120; 45_adler32.md R162, R163). -/

namespace Sys2Proof.Machine

/-- START step (R110). -/
def execStartStep (s : State) : Host.Outcome State Fault Refusal := .next s.startInit

/-- `ADLER <- calc(OUT[0 .. OP-1])` (R162). -/
def State.loadAdler (s : State) : State := { s with adler := adlerCalc (s.outBytes s.op.toNat 0) }

/-- FINISH computes the checksum, and then checks the trailer in zlib mode with VERIFY = 1, or completes (R120). -/
def finishDecode (s : State) : Res :=
  if s.op.toNat ≤ s.par.outMemSize then
    .ok (if s.mode && s.verify then s.loadAdler.setPend .trailer else s.loadAdler.complete)
  else .fault (.noOutAddress s.par.outMemSize)

/-- FINISH (R120). -/
def execFinish (s : State) : Host.Outcome State Fault Refusal := (finishDecode s).finish

/-- `TRAILER <- T` (R163). -/
def State.loadTrailer (s : State) (w : Word) : State := { s with trailer := w }

/-- The trailer is kept and compared with ADLER (R163). IP is past it already. -/
def checkTrailer (w : Word) (s : State) : Res :=
  if w ≠ s.adler then .raise .checksumMismatch (s.loadTrailer w) else .ok (s.loadTrailer w).complete

/-- TRAILER (R163). -/
def execTrailer (w : Word) (s : State) : Host.Outcome State Fault Refusal := (checkTrailer w s).finish

end Sys2Proof.Machine
end

