-- ==== Sys2Proof/Machine/Header.lean ====
section
/-! DEFINITION. The meanings of the headers: ZHDR and the four BLOCK types (42_block_decoder.md R111, R112). -/

namespace Sys2Proof.Machine

/-- The three header checks, in the source's order (R111). IP is past the header already. -/
def zlibHeader (cmf flg : BitVec 8) (s : State) : Res :=
  if cmf &&& 0x0F ≠ 8 then .raise .unsupportedMethod s
  else if (cmf.toNat * 256 + flg.toNat) % 31 ≠ 0 then .raise .invalidHeaderChecksum s
  else if flg &&& 0x20 ≠ 0 then .raise .unsupportedFeature s
  else .ok (s.goTo .bhdr)

/-- ZHDR (R111). -/
def execZhdr (cmf flg : BitVec 8) (s : State) : Host.Outcome State Fault Refusal := (zlibHeader cmf flg s).finish

/-- BFINAL and BTYPE of a block header (R112). -/
def State.setBlock (s : State) (f : BitVec 1) (t : BitVec 2) : State := { s with bfinal := f, btype := t }

/-- BLOCK type=stored (R112). -/
def execBlockStored (f : BitVec 1) (s : State) : Host.Outcome State Fault Refusal := .next ((s.setBlock f 0).goTo .stored)

/-- A fixed block selects the two ROM tables (R112, 41_huffman_builder.md R107). -/
def State.selectFixed (s : State) : State := { s with litt := flit, distt := fdist }

/-- BLOCK type=fixed (R112). -/
def execBlockFixed (f : BitVec 1) (s : State) : Host.Outcome State Fault Refusal :=
  .next ((s.setBlock f 1).selectFixed.goTo .body)

/-- BLOCK type=dynamic (R112). -/
def execBlockDynamic (f : BitVec 1) (s : State) : Host.Outcome State Fault Refusal := .next ((s.setBlock f 2).goTo .dynhdr)

/-- BLOCK type=reserved raises UnknownBlockType, BFINAL and BTYPE written (R112). -/
def execBlockReserved (f : BitVec 1) (s : State) : Host.Outcome State Fault Refusal :=
  (Res.raise .unknownBlockType (s.setBlock f 3)).finish

end Sys2Proof.Machine
end

