-- ==== Sys2Proof/Machine/HostCommands.lean ====
section
/-! DEFINITION. The meanings of the host's commands, of register and memory accesses, and of RST (46_host_commands.md R170 to R179;
70_reset_and_hazards.md R200). -/

namespace Sys2Proof.Machine

/-- START: the options, and when BUSY = 0 the initialisation, which the same step runs (R170). -/
def execStart (v : Word) (s : State) : Host.Outcome State Fault Refusal :=
  .next (if s.busy then s.writeOptions v else (s.writeOptions v).setPend .startStep)

/-- ABORT: the options, and when BUSY = 1 error entry with Aborted (R171, R179; 60_exceptions.md R185). -/
def execAbort (v : Word) (s : State) : Host.Outcome State Fault Refusal :=
  .next (if s.busy then (s.writeOptions v).enterError .aborted else s.writeOptions v)

/-- CONFIG: the options (R172). -/
def execConfig (v : Word) (s : State) : Host.Outcome State Fault Refusal := .next (s.writeOptions v)

/-- CLEAR (R173). -/
def execClear (v : Word) (s : State) : Host.Outcome State Fault Refusal := .next (s.clearStatus v)

/-- A parameter write, ignored while BUSY = 1 (R174). -/
def State.ifIdle (s : State) (t : State) : State := if s.busy then s else t

/-- SETPARAM INDEX (R174). -/
def execSetIndex (v : Word) (s : State) : Host.Outcome State Fault Refusal := .next (s.ifIdle { s with index := v })

/-- SETPARAM IN_LEN: `min(v, IN_MEM_SIZE)` is stored (R174, 10_state.md R14). -/
def execSetInLen (v : Word) (s : State) : Host.Outcome State Fault Refusal :=
  .next (s.ifIdle { s with inLen := BitVec.ofNat 32 (Nat.min v.toNat s.par.inMemSize) })

/-- SETPARAM BUFSIZE (R174). -/
def execSetBufSize (v : Word) (s : State) : Host.Outcome State Fault Refusal := .next (s.ifIdle { s with bufSize := v })

/-- WRITE read-only or reserved: ignored (R175). -/
def execWriteIgnored (_off : BitVec 8) (_v : Word) (s : State) : Host.Outcome State Fault Refusal := .next s

/-- READ register (R176). -/
def execReadReg (off : BitVec 8) (s : State) : Host.Outcome State Fault Refusal :=
  .next { s with readData := s.readRegister off }

/-- IN access (R177): a read returns the stored bytes at any time; a write stores its bytes while BUSY = 0, and while BUSY = 1 the
host has no such move. -/
def execInAccess (a : MemAccess) (s : State) : Host.Outcome State Fault Refusal :=
  if a.legal s.par.inMemSize then
    match a.wdata with
    | none => .next { s with readData := BitVec.ofNat 32 (readLittle s.inByte a.width.bytes a.offset) }
    | some v =>
      if s.busy then .refused .hostWriteWhileBusy
      else .next { s with inMem := putLittle a.width.bytes s.inMem a.offset v.toNat }
  else .next s.markRefused

/-- OUT read, and OUT write (R178): as for IN. -/
def execOutAccess (a : MemAccess) (s : State) : Host.Outcome State Fault Refusal :=
  if a.legal s.par.outMemSize then
    match a.wdata with
    | none => .next { s with readData := BitVec.ofNat 32 (readLittle s.outByte a.width.bytes a.offset) }
    | some v =>
      if s.busy then .refused .hostWriteWhileBusy
      else .next { s with outMem := putLittle a.width.bytes s.outMem a.offset v.toNat }
  else .next s.markRefused

/-- RST (70_reset_and_hazards.md R200 to R202). -/
def execRst (s : State) : Host.Outcome State Fault Refusal := .next s.applyReset

end Sys2Proof.Machine
end

