-- ==== Sys2Proof/Machine/Lengths.lean ====
section
/-! DEFINITION. The meanings of the end of a block and of the length symbols: EOB, and LEN 257 .. LEN 287, of the fixed code and of a
dynamic table (43_lz77_copy.md R142, R143). -/

namespace Sys2Proof.Machine

/-- End of block: the rewind, then FINISH after the final block or the next header (R142). -/
def endOfBlock (s : State) : State := (s.withReader s.reader.eobRewind).blockEnd

/-- EOB of the fixed code (R142). -/
def execEob (s : State) : Host.Outcome State Fault Refusal := .next (endOfBlock s)

/-- EOB of a dynamic table (R142). -/
def execEobDyn (s : State) : Host.Outcome State Fault Refusal := .next (endOfBlock s)

/-- `length <- LBASE[idx] + e`; the distance follows in the same step (R143). -/
def lengthElement (idx e : Nat) (s : State) : Host.Outcome State Fault Refusal :=
  .next (s.setPend (.distance (lengthBase idx + e)))

/-- LEN of a dynamic table (R143). -/
def execLenDyn (idx e : BitVec 5) (s : State) : Host.Outcome State Fault Refusal := lengthElement idx.toNat e.toNat s

/-! LEN 257 .. LEN 287 of the fixed code (R143). -/

def execLen257 (s : State) : Host.Outcome State Fault Refusal := lengthElement 0 0 s
def execLen258 (s : State) : Host.Outcome State Fault Refusal := lengthElement 1 0 s
def execLen259 (s : State) : Host.Outcome State Fault Refusal := lengthElement 2 0 s
def execLen260 (s : State) : Host.Outcome State Fault Refusal := lengthElement 3 0 s
def execLen261 (s : State) : Host.Outcome State Fault Refusal := lengthElement 4 0 s
def execLen262 (s : State) : Host.Outcome State Fault Refusal := lengthElement 5 0 s
def execLen263 (s : State) : Host.Outcome State Fault Refusal := lengthElement 6 0 s
def execLen264 (s : State) : Host.Outcome State Fault Refusal := lengthElement 7 0 s
def execLen265 (e : BitVec 1) (s : State) : Host.Outcome State Fault Refusal := lengthElement 8 e.toNat s
def execLen266 (e : BitVec 1) (s : State) : Host.Outcome State Fault Refusal := lengthElement 9 e.toNat s
def execLen267 (e : BitVec 1) (s : State) : Host.Outcome State Fault Refusal := lengthElement 10 e.toNat s
def execLen268 (e : BitVec 1) (s : State) : Host.Outcome State Fault Refusal := lengthElement 11 e.toNat s
def execLen269 (e : BitVec 2) (s : State) : Host.Outcome State Fault Refusal := lengthElement 12 e.toNat s
def execLen270 (e : BitVec 2) (s : State) : Host.Outcome State Fault Refusal := lengthElement 13 e.toNat s
def execLen271 (e : BitVec 2) (s : State) : Host.Outcome State Fault Refusal := lengthElement 14 e.toNat s
def execLen272 (e : BitVec 2) (s : State) : Host.Outcome State Fault Refusal := lengthElement 15 e.toNat s
def execLen273 (e : BitVec 3) (s : State) : Host.Outcome State Fault Refusal := lengthElement 16 e.toNat s
def execLen274 (e : BitVec 3) (s : State) : Host.Outcome State Fault Refusal := lengthElement 17 e.toNat s
def execLen275 (e : BitVec 3) (s : State) : Host.Outcome State Fault Refusal := lengthElement 18 e.toNat s
def execLen276 (e : BitVec 3) (s : State) : Host.Outcome State Fault Refusal := lengthElement 19 e.toNat s
def execLen277 (e : BitVec 4) (s : State) : Host.Outcome State Fault Refusal := lengthElement 20 e.toNat s
def execLen278 (e : BitVec 4) (s : State) : Host.Outcome State Fault Refusal := lengthElement 21 e.toNat s
def execLen279 (e : BitVec 4) (s : State) : Host.Outcome State Fault Refusal := lengthElement 22 e.toNat s
def execLen280 (e : BitVec 4) (s : State) : Host.Outcome State Fault Refusal := lengthElement 23 e.toNat s
def execLen281 (e : BitVec 5) (s : State) : Host.Outcome State Fault Refusal := lengthElement 24 e.toNat s
def execLen282 (e : BitVec 5) (s : State) : Host.Outcome State Fault Refusal := lengthElement 25 e.toNat s
def execLen283 (e : BitVec 5) (s : State) : Host.Outcome State Fault Refusal := lengthElement 26 e.toNat s
def execLen284 (e : BitVec 5) (s : State) : Host.Outcome State Fault Refusal := lengthElement 27 e.toNat s
def execLen285 (s : State) : Host.Outcome State Fault Refusal := lengthElement 28 0 s
def execLen286 (s : State) : Host.Outcome State Fault Refusal := lengthElement 29 0 s
def execLen287 (s : State) : Host.Outcome State Fault Refusal := lengthElement 30 0 s

end Sys2Proof.Machine
end

