-- ==== Sys2Proof/Machine/Literals.lean ====
section
/-! DEFINITION. The meanings of the literals: LIT 0x00 .. LIT 0xFF of the fixed code and LIT of a dynamic table (43_lz77_copy.md R141). -/

namespace Sys2Proof.Machine

/-- `if OP >= CAP: grow(OP + 1)`, with the default ratio (R141). -/
def State.growForLiteral (s : State) : Res :=
  if s.cap.toNat ≤ s.op.toNat then s.grow (s.op.toNat + 1) none else .ok s

/-- The literal byte v is written to the output (R141). -/
def literalByte (v : BitVec 8) (s : State) : Res := s.growForLiteral.andThen fun s => s.emit v

/-- A literal (R141). -/
def literal (v : BitVec 8) (s : State) : Host.Outcome State Fault Refusal := (literalByte v s).finish

/-- LIT of a dynamic table (R141). -/
def execLitDyn (v : BitVec 8) (s : State) : Host.Outcome State Fault Refusal := literal v s

/-! LIT 0x00 .. LIT 0xFF of the fixed code (R141). -/

def execLit00 (s : State) : Host.Outcome State Fault Refusal := literal 0x00 s
def execLit01 (s : State) : Host.Outcome State Fault Refusal := literal 0x01 s
def execLit02 (s : State) : Host.Outcome State Fault Refusal := literal 0x02 s
def execLit03 (s : State) : Host.Outcome State Fault Refusal := literal 0x03 s
def execLit04 (s : State) : Host.Outcome State Fault Refusal := literal 0x04 s
def execLit05 (s : State) : Host.Outcome State Fault Refusal := literal 0x05 s
def execLit06 (s : State) : Host.Outcome State Fault Refusal := literal 0x06 s
def execLit07 (s : State) : Host.Outcome State Fault Refusal := literal 0x07 s
def execLit08 (s : State) : Host.Outcome State Fault Refusal := literal 0x08 s
def execLit09 (s : State) : Host.Outcome State Fault Refusal := literal 0x09 s
def execLit0A (s : State) : Host.Outcome State Fault Refusal := literal 0x0A s
def execLit0B (s : State) : Host.Outcome State Fault Refusal := literal 0x0B s
def execLit0C (s : State) : Host.Outcome State Fault Refusal := literal 0x0C s
def execLit0D (s : State) : Host.Outcome State Fault Refusal := literal 0x0D s
def execLit0E (s : State) : Host.Outcome State Fault Refusal := literal 0x0E s
def execLit0F (s : State) : Host.Outcome State Fault Refusal := literal 0x0F s
def execLit10 (s : State) : Host.Outcome State Fault Refusal := literal 0x10 s
def execLit11 (s : State) : Host.Outcome State Fault Refusal := literal 0x11 s
def execLit12 (s : State) : Host.Outcome State Fault Refusal := literal 0x12 s
def execLit13 (s : State) : Host.Outcome State Fault Refusal := literal 0x13 s
def execLit14 (s : State) : Host.Outcome State Fault Refusal := literal 0x14 s
def execLit15 (s : State) : Host.Outcome State Fault Refusal := literal 0x15 s
def execLit16 (s : State) : Host.Outcome State Fault Refusal := literal 0x16 s
def execLit17 (s : State) : Host.Outcome State Fault Refusal := literal 0x17 s
def execLit18 (s : State) : Host.Outcome State Fault Refusal := literal 0x18 s
def execLit19 (s : State) : Host.Outcome State Fault Refusal := literal 0x19 s
def execLit1A (s : State) : Host.Outcome State Fault Refusal := literal 0x1A s
def execLit1B (s : State) : Host.Outcome State Fault Refusal := literal 0x1B s
def execLit1C (s : State) : Host.Outcome State Fault Refusal := literal 0x1C s
def execLit1D (s : State) : Host.Outcome State Fault Refusal := literal 0x1D s
def execLit1E (s : State) : Host.Outcome State Fault Refusal := literal 0x1E s
def execLit1F (s : State) : Host.Outcome State Fault Refusal := literal 0x1F s
def execLit20 (s : State) : Host.Outcome State Fault Refusal := literal 0x20 s
def execLit21 (s : State) : Host.Outcome State Fault Refusal := literal 0x21 s
def execLit22 (s : State) : Host.Outcome State Fault Refusal := literal 0x22 s
def execLit23 (s : State) : Host.Outcome State Fault Refusal := literal 0x23 s
def execLit24 (s : State) : Host.Outcome State Fault Refusal := literal 0x24 s
def execLit25 (s : State) : Host.Outcome State Fault Refusal := literal 0x25 s
def execLit26 (s : State) : Host.Outcome State Fault Refusal := literal 0x26 s
def execLit27 (s : State) : Host.Outcome State Fault Refusal := literal 0x27 s
def execLit28 (s : State) : Host.Outcome State Fault Refusal := literal 0x28 s
def execLit29 (s : State) : Host.Outcome State Fault Refusal := literal 0x29 s
def execLit2A (s : State) : Host.Outcome State Fault Refusal := literal 0x2A s
def execLit2B (s : State) : Host.Outcome State Fault Refusal := literal 0x2B s
def execLit2C (s : State) : Host.Outcome State Fault Refusal := literal 0x2C s
def execLit2D (s : State) : Host.Outcome State Fault Refusal := literal 0x2D s
def execLit2E (s : State) : Host.Outcome State Fault Refusal := literal 0x2E s
def execLit2F (s : State) : Host.Outcome State Fault Refusal := literal 0x2F s
def execLit30 (s : State) : Host.Outcome State Fault Refusal := literal 0x30 s
def execLit31 (s : State) : Host.Outcome State Fault Refusal := literal 0x31 s
def execLit32 (s : State) : Host.Outcome State Fault Refusal := literal 0x32 s
def execLit33 (s : State) : Host.Outcome State Fault Refusal := literal 0x33 s
def execLit34 (s : State) : Host.Outcome State Fault Refusal := literal 0x34 s
def execLit35 (s : State) : Host.Outcome State Fault Refusal := literal 0x35 s
def execLit36 (s : State) : Host.Outcome State Fault Refusal := literal 0x36 s
def execLit37 (s : State) : Host.Outcome State Fault Refusal := literal 0x37 s
def execLit38 (s : State) : Host.Outcome State Fault Refusal := literal 0x38 s
def execLit39 (s : State) : Host.Outcome State Fault Refusal := literal 0x39 s
def execLit3A (s : State) : Host.Outcome State Fault Refusal := literal 0x3A s
def execLit3B (s : State) : Host.Outcome State Fault Refusal := literal 0x3B s
def execLit3C (s : State) : Host.Outcome State Fault Refusal := literal 0x3C s
def execLit3D (s : State) : Host.Outcome State Fault Refusal := literal 0x3D s
def execLit3E (s : State) : Host.Outcome State Fault Refusal := literal 0x3E s
def execLit3F (s : State) : Host.Outcome State Fault Refusal := literal 0x3F s
def execLit40 (s : State) : Host.Outcome State Fault Refusal := literal 0x40 s
def execLit41 (s : State) : Host.Outcome State Fault Refusal := literal 0x41 s
def execLit42 (s : State) : Host.Outcome State Fault Refusal := literal 0x42 s
def execLit43 (s : State) : Host.Outcome State Fault Refusal := literal 0x43 s
def execLit44 (s : State) : Host.Outcome State Fault Refusal := literal 0x44 s
def execLit45 (s : State) : Host.Outcome State Fault Refusal := literal 0x45 s
def execLit46 (s : State) : Host.Outcome State Fault Refusal := literal 0x46 s
def execLit47 (s : State) : Host.Outcome State Fault Refusal := literal 0x47 s
def execLit48 (s : State) : Host.Outcome State Fault Refusal := literal 0x48 s
def execLit49 (s : State) : Host.Outcome State Fault Refusal := literal 0x49 s
def execLit4A (s : State) : Host.Outcome State Fault Refusal := literal 0x4A s
def execLit4B (s : State) : Host.Outcome State Fault Refusal := literal 0x4B s
def execLit4C (s : State) : Host.Outcome State Fault Refusal := literal 0x4C s
def execLit4D (s : State) : Host.Outcome State Fault Refusal := literal 0x4D s
def execLit4E (s : State) : Host.Outcome State Fault Refusal := literal 0x4E s
def execLit4F (s : State) : Host.Outcome State Fault Refusal := literal 0x4F s
def execLit50 (s : State) : Host.Outcome State Fault Refusal := literal 0x50 s
def execLit51 (s : State) : Host.Outcome State Fault Refusal := literal 0x51 s
def execLit52 (s : State) : Host.Outcome State Fault Refusal := literal 0x52 s
def execLit53 (s : State) : Host.Outcome State Fault Refusal := literal 0x53 s
def execLit54 (s : State) : Host.Outcome State Fault Refusal := literal 0x54 s
def execLit55 (s : State) : Host.Outcome State Fault Refusal := literal 0x55 s
def execLit56 (s : State) : Host.Outcome State Fault Refusal := literal 0x56 s
def execLit57 (s : State) : Host.Outcome State Fault Refusal := literal 0x57 s
def execLit58 (s : State) : Host.Outcome State Fault Refusal := literal 0x58 s
def execLit59 (s : State) : Host.Outcome State Fault Refusal := literal 0x59 s
def execLit5A (s : State) : Host.Outcome State Fault Refusal := literal 0x5A s
def execLit5B (s : State) : Host.Outcome State Fault Refusal := literal 0x5B s
def execLit5C (s : State) : Host.Outcome State Fault Refusal := literal 0x5C s
def execLit5D (s : State) : Host.Outcome State Fault Refusal := literal 0x5D s
def execLit5E (s : State) : Host.Outcome State Fault Refusal := literal 0x5E s
def execLit5F (s : State) : Host.Outcome State Fault Refusal := literal 0x5F s
def execLit60 (s : State) : Host.Outcome State Fault Refusal := literal 0x60 s
def execLit61 (s : State) : Host.Outcome State Fault Refusal := literal 0x61 s
def execLit62 (s : State) : Host.Outcome State Fault Refusal := literal 0x62 s
def execLit63 (s : State) : Host.Outcome State Fault Refusal := literal 0x63 s
def execLit64 (s : State) : Host.Outcome State Fault Refusal := literal 0x64 s
def execLit65 (s : State) : Host.Outcome State Fault Refusal := literal 0x65 s
def execLit66 (s : State) : Host.Outcome State Fault Refusal := literal 0x66 s
def execLit67 (s : State) : Host.Outcome State Fault Refusal := literal 0x67 s
def execLit68 (s : State) : Host.Outcome State Fault Refusal := literal 0x68 s
def execLit69 (s : State) : Host.Outcome State Fault Refusal := literal 0x69 s
def execLit6A (s : State) : Host.Outcome State Fault Refusal := literal 0x6A s
def execLit6B (s : State) : Host.Outcome State Fault Refusal := literal 0x6B s
def execLit6C (s : State) : Host.Outcome State Fault Refusal := literal 0x6C s
def execLit6D (s : State) : Host.Outcome State Fault Refusal := literal 0x6D s
def execLit6E (s : State) : Host.Outcome State Fault Refusal := literal 0x6E s
def execLit6F (s : State) : Host.Outcome State Fault Refusal := literal 0x6F s
def execLit70 (s : State) : Host.Outcome State Fault Refusal := literal 0x70 s
def execLit71 (s : State) : Host.Outcome State Fault Refusal := literal 0x71 s
def execLit72 (s : State) : Host.Outcome State Fault Refusal := literal 0x72 s
def execLit73 (s : State) : Host.Outcome State Fault Refusal := literal 0x73 s
def execLit74 (s : State) : Host.Outcome State Fault Refusal := literal 0x74 s
def execLit75 (s : State) : Host.Outcome State Fault Refusal := literal 0x75 s
def execLit76 (s : State) : Host.Outcome State Fault Refusal := literal 0x76 s
def execLit77 (s : State) : Host.Outcome State Fault Refusal := literal 0x77 s
def execLit78 (s : State) : Host.Outcome State Fault Refusal := literal 0x78 s
def execLit79 (s : State) : Host.Outcome State Fault Refusal := literal 0x79 s
def execLit7A (s : State) : Host.Outcome State Fault Refusal := literal 0x7A s
def execLit7B (s : State) : Host.Outcome State Fault Refusal := literal 0x7B s
def execLit7C (s : State) : Host.Outcome State Fault Refusal := literal 0x7C s
def execLit7D (s : State) : Host.Outcome State Fault Refusal := literal 0x7D s
def execLit7E (s : State) : Host.Outcome State Fault Refusal := literal 0x7E s
def execLit7F (s : State) : Host.Outcome State Fault Refusal := literal 0x7F s
def execLit80 (s : State) : Host.Outcome State Fault Refusal := literal 0x80 s
def execLit81 (s : State) : Host.Outcome State Fault Refusal := literal 0x81 s
def execLit82 (s : State) : Host.Outcome State Fault Refusal := literal 0x82 s
def execLit83 (s : State) : Host.Outcome State Fault Refusal := literal 0x83 s
def execLit84 (s : State) : Host.Outcome State Fault Refusal := literal 0x84 s
def execLit85 (s : State) : Host.Outcome State Fault Refusal := literal 0x85 s
def execLit86 (s : State) : Host.Outcome State Fault Refusal := literal 0x86 s
def execLit87 (s : State) : Host.Outcome State Fault Refusal := literal 0x87 s
def execLit88 (s : State) : Host.Outcome State Fault Refusal := literal 0x88 s
def execLit89 (s : State) : Host.Outcome State Fault Refusal := literal 0x89 s
def execLit8A (s : State) : Host.Outcome State Fault Refusal := literal 0x8A s
def execLit8B (s : State) : Host.Outcome State Fault Refusal := literal 0x8B s
def execLit8C (s : State) : Host.Outcome State Fault Refusal := literal 0x8C s
def execLit8D (s : State) : Host.Outcome State Fault Refusal := literal 0x8D s
def execLit8E (s : State) : Host.Outcome State Fault Refusal := literal 0x8E s
def execLit8F (s : State) : Host.Outcome State Fault Refusal := literal 0x8F s
def execLit90 (s : State) : Host.Outcome State Fault Refusal := literal 0x90 s
def execLit91 (s : State) : Host.Outcome State Fault Refusal := literal 0x91 s
def execLit92 (s : State) : Host.Outcome State Fault Refusal := literal 0x92 s
def execLit93 (s : State) : Host.Outcome State Fault Refusal := literal 0x93 s
def execLit94 (s : State) : Host.Outcome State Fault Refusal := literal 0x94 s
def execLit95 (s : State) : Host.Outcome State Fault Refusal := literal 0x95 s
def execLit96 (s : State) : Host.Outcome State Fault Refusal := literal 0x96 s
def execLit97 (s : State) : Host.Outcome State Fault Refusal := literal 0x97 s
def execLit98 (s : State) : Host.Outcome State Fault Refusal := literal 0x98 s
def execLit99 (s : State) : Host.Outcome State Fault Refusal := literal 0x99 s
def execLit9A (s : State) : Host.Outcome State Fault Refusal := literal 0x9A s
def execLit9B (s : State) : Host.Outcome State Fault Refusal := literal 0x9B s
def execLit9C (s : State) : Host.Outcome State Fault Refusal := literal 0x9C s
def execLit9D (s : State) : Host.Outcome State Fault Refusal := literal 0x9D s
def execLit9E (s : State) : Host.Outcome State Fault Refusal := literal 0x9E s
def execLit9F (s : State) : Host.Outcome State Fault Refusal := literal 0x9F s
def execLitA0 (s : State) : Host.Outcome State Fault Refusal := literal 0xA0 s
def execLitA1 (s : State) : Host.Outcome State Fault Refusal := literal 0xA1 s
def execLitA2 (s : State) : Host.Outcome State Fault Refusal := literal 0xA2 s
def execLitA3 (s : State) : Host.Outcome State Fault Refusal := literal 0xA3 s
def execLitA4 (s : State) : Host.Outcome State Fault Refusal := literal 0xA4 s
def execLitA5 (s : State) : Host.Outcome State Fault Refusal := literal 0xA5 s
def execLitA6 (s : State) : Host.Outcome State Fault Refusal := literal 0xA6 s
def execLitA7 (s : State) : Host.Outcome State Fault Refusal := literal 0xA7 s
def execLitA8 (s : State) : Host.Outcome State Fault Refusal := literal 0xA8 s
def execLitA9 (s : State) : Host.Outcome State Fault Refusal := literal 0xA9 s
def execLitAA (s : State) : Host.Outcome State Fault Refusal := literal 0xAA s
def execLitAB (s : State) : Host.Outcome State Fault Refusal := literal 0xAB s
def execLitAC (s : State) : Host.Outcome State Fault Refusal := literal 0xAC s
def execLitAD (s : State) : Host.Outcome State Fault Refusal := literal 0xAD s
def execLitAE (s : State) : Host.Outcome State Fault Refusal := literal 0xAE s
def execLitAF (s : State) : Host.Outcome State Fault Refusal := literal 0xAF s
def execLitB0 (s : State) : Host.Outcome State Fault Refusal := literal 0xB0 s
def execLitB1 (s : State) : Host.Outcome State Fault Refusal := literal 0xB1 s
def execLitB2 (s : State) : Host.Outcome State Fault Refusal := literal 0xB2 s
def execLitB3 (s : State) : Host.Outcome State Fault Refusal := literal 0xB3 s
def execLitB4 (s : State) : Host.Outcome State Fault Refusal := literal 0xB4 s
def execLitB5 (s : State) : Host.Outcome State Fault Refusal := literal 0xB5 s
def execLitB6 (s : State) : Host.Outcome State Fault Refusal := literal 0xB6 s
def execLitB7 (s : State) : Host.Outcome State Fault Refusal := literal 0xB7 s
def execLitB8 (s : State) : Host.Outcome State Fault Refusal := literal 0xB8 s
def execLitB9 (s : State) : Host.Outcome State Fault Refusal := literal 0xB9 s
def execLitBA (s : State) : Host.Outcome State Fault Refusal := literal 0xBA s
def execLitBB (s : State) : Host.Outcome State Fault Refusal := literal 0xBB s
def execLitBC (s : State) : Host.Outcome State Fault Refusal := literal 0xBC s
def execLitBD (s : State) : Host.Outcome State Fault Refusal := literal 0xBD s
def execLitBE (s : State) : Host.Outcome State Fault Refusal := literal 0xBE s
def execLitBF (s : State) : Host.Outcome State Fault Refusal := literal 0xBF s
def execLitC0 (s : State) : Host.Outcome State Fault Refusal := literal 0xC0 s
def execLitC1 (s : State) : Host.Outcome State Fault Refusal := literal 0xC1 s
def execLitC2 (s : State) : Host.Outcome State Fault Refusal := literal 0xC2 s
def execLitC3 (s : State) : Host.Outcome State Fault Refusal := literal 0xC3 s
def execLitC4 (s : State) : Host.Outcome State Fault Refusal := literal 0xC4 s
def execLitC5 (s : State) : Host.Outcome State Fault Refusal := literal 0xC5 s
def execLitC6 (s : State) : Host.Outcome State Fault Refusal := literal 0xC6 s
def execLitC7 (s : State) : Host.Outcome State Fault Refusal := literal 0xC7 s
def execLitC8 (s : State) : Host.Outcome State Fault Refusal := literal 0xC8 s
def execLitC9 (s : State) : Host.Outcome State Fault Refusal := literal 0xC9 s
def execLitCA (s : State) : Host.Outcome State Fault Refusal := literal 0xCA s
def execLitCB (s : State) : Host.Outcome State Fault Refusal := literal 0xCB s
def execLitCC (s : State) : Host.Outcome State Fault Refusal := literal 0xCC s
def execLitCD (s : State) : Host.Outcome State Fault Refusal := literal 0xCD s
def execLitCE (s : State) : Host.Outcome State Fault Refusal := literal 0xCE s
def execLitCF (s : State) : Host.Outcome State Fault Refusal := literal 0xCF s
def execLitD0 (s : State) : Host.Outcome State Fault Refusal := literal 0xD0 s
def execLitD1 (s : State) : Host.Outcome State Fault Refusal := literal 0xD1 s
def execLitD2 (s : State) : Host.Outcome State Fault Refusal := literal 0xD2 s
def execLitD3 (s : State) : Host.Outcome State Fault Refusal := literal 0xD3 s
def execLitD4 (s : State) : Host.Outcome State Fault Refusal := literal 0xD4 s
def execLitD5 (s : State) : Host.Outcome State Fault Refusal := literal 0xD5 s
def execLitD6 (s : State) : Host.Outcome State Fault Refusal := literal 0xD6 s
def execLitD7 (s : State) : Host.Outcome State Fault Refusal := literal 0xD7 s
def execLitD8 (s : State) : Host.Outcome State Fault Refusal := literal 0xD8 s
def execLitD9 (s : State) : Host.Outcome State Fault Refusal := literal 0xD9 s
def execLitDA (s : State) : Host.Outcome State Fault Refusal := literal 0xDA s
def execLitDB (s : State) : Host.Outcome State Fault Refusal := literal 0xDB s
def execLitDC (s : State) : Host.Outcome State Fault Refusal := literal 0xDC s
def execLitDD (s : State) : Host.Outcome State Fault Refusal := literal 0xDD s
def execLitDE (s : State) : Host.Outcome State Fault Refusal := literal 0xDE s
def execLitDF (s : State) : Host.Outcome State Fault Refusal := literal 0xDF s
def execLitE0 (s : State) : Host.Outcome State Fault Refusal := literal 0xE0 s
def execLitE1 (s : State) : Host.Outcome State Fault Refusal := literal 0xE1 s
def execLitE2 (s : State) : Host.Outcome State Fault Refusal := literal 0xE2 s
def execLitE3 (s : State) : Host.Outcome State Fault Refusal := literal 0xE3 s
def execLitE4 (s : State) : Host.Outcome State Fault Refusal := literal 0xE4 s
def execLitE5 (s : State) : Host.Outcome State Fault Refusal := literal 0xE5 s
def execLitE6 (s : State) : Host.Outcome State Fault Refusal := literal 0xE6 s
def execLitE7 (s : State) : Host.Outcome State Fault Refusal := literal 0xE7 s
def execLitE8 (s : State) : Host.Outcome State Fault Refusal := literal 0xE8 s
def execLitE9 (s : State) : Host.Outcome State Fault Refusal := literal 0xE9 s
def execLitEA (s : State) : Host.Outcome State Fault Refusal := literal 0xEA s
def execLitEB (s : State) : Host.Outcome State Fault Refusal := literal 0xEB s
def execLitEC (s : State) : Host.Outcome State Fault Refusal := literal 0xEC s
def execLitED (s : State) : Host.Outcome State Fault Refusal := literal 0xED s
def execLitEE (s : State) : Host.Outcome State Fault Refusal := literal 0xEE s
def execLitEF (s : State) : Host.Outcome State Fault Refusal := literal 0xEF s
def execLitF0 (s : State) : Host.Outcome State Fault Refusal := literal 0xF0 s
def execLitF1 (s : State) : Host.Outcome State Fault Refusal := literal 0xF1 s
def execLitF2 (s : State) : Host.Outcome State Fault Refusal := literal 0xF2 s
def execLitF3 (s : State) : Host.Outcome State Fault Refusal := literal 0xF3 s
def execLitF4 (s : State) : Host.Outcome State Fault Refusal := literal 0xF4 s
def execLitF5 (s : State) : Host.Outcome State Fault Refusal := literal 0xF5 s
def execLitF6 (s : State) : Host.Outcome State Fault Refusal := literal 0xF6 s
def execLitF7 (s : State) : Host.Outcome State Fault Refusal := literal 0xF7 s
def execLitF8 (s : State) : Host.Outcome State Fault Refusal := literal 0xF8 s
def execLitF9 (s : State) : Host.Outcome State Fault Refusal := literal 0xF9 s
def execLitFA (s : State) : Host.Outcome State Fault Refusal := literal 0xFA s
def execLitFB (s : State) : Host.Outcome State Fault Refusal := literal 0xFB s
def execLitFC (s : State) : Host.Outcome State Fault Refusal := literal 0xFC s
def execLitFD (s : State) : Host.Outcome State Fault Refusal := literal 0xFD s
def execLitFE (s : State) : Host.Outcome State Fault Refusal := literal 0xFE s
def execLitFF (s : State) : Host.Outcome State Fault Refusal := literal 0xFF s

end Sys2Proof.Machine
end

