-- ==== Sys2Proof/Machine/Stored.lean ====
section
/-! DEFINITION. The meanings of a stored block's elements: LENNLEN and DATA (42_block_decoder.md R113). -/

namespace Sys2Proof.Machine

/-- The block's data bytes follow, or with LEN = 0 the block ends (R113). -/
def State.beginData (s : State) (len : Nat) : State := if len = 0 then s.blockEnd else s.setPend (.storedData len)

/-- The checks of a stored header and the room for its data (R113). IP is past LEN and NLEN already. -/
def storedHeader (len nlen : BitVec 16) (s : State) : Res :=
  if len ≠ nlen ^^^ 0xFFFF then .raise .invalidStoredBlockHeader s
  else if s.inLen.toNat < s.ip.toNat + len.toNat then .raise .inputBufferBroken s
  else (s.grow (s.op.toNat + len.toNat) (some storedGrowRatio)).andThen fun s => .ok (s.beginData len.toNat)

/-- LENNLEN (R113). -/
def execLenNlen (len nlen : BitVec 16) (s : State) : Host.Outcome State Fault Refusal := (storedHeader len nlen s).finish

/-- After a data byte: the next one, or after the last the end of the block (R113). -/
def State.nextData (s : State) : State :=
  if s.pend.dataLeft ≤ 1 then s.blockEnd else s.setPend (.storedData (s.pend.dataLeft - 1))

/-- One stored data byte is copied to the output (R113). IP is past the byte already. -/
def storedByte (b : BitVec 8) (s : State) : Res := (s.emit b).andThen fun s => .ok s.nextData

/-- DATA (R113). -/
def execData (b : BitVec 8) (s : State) : Host.Outcome State Fault Refusal := (storedByte b s).finish

end Sys2Proof.Machine
end

