-- ==== Sys2Proof/Machine/Dispatch.lean ====
section
/-! DEFINITION. The dispatch: one arm per instruction, each a direct call of its meaning. -/

namespace Sys2Proof.Machine

def exec (i : Instr) (s : State) : Host.Outcome State Fault Refusal :=
  match i with
  | .zhdr cmf flg => Sys2Proof.Machine.execZhdr cmf flg s
  | .blockStored bfinal => Sys2Proof.Machine.execBlockStored bfinal s
  | .blockFixed bfinal => Sys2Proof.Machine.execBlockFixed bfinal s
  | .blockDynamic bfinal => Sys2Proof.Machine.execBlockDynamic bfinal s
  | .blockReserved bfinal => Sys2Proof.Machine.execBlockReserved bfinal s
  | .lenNlen len nlen => Sys2Proof.Machine.execLenNlen len nlen s
  | .data b => Sys2Proof.Machine.execData b s
  | .dyn hlit hdist hclen => Sys2Proof.Machine.execDyn hlit hdist hclen s
  | .cll l => Sys2Proof.Machine.execCll l s
  | .cl16 e => Sys2Proof.Machine.execCl16 e s
  | .cl17 e => Sys2Proof.Machine.execCl17 e s
  | .cl18 e => Sys2Proof.Machine.execCl18 e s
  | .len265 e => Sys2Proof.Machine.execLen265 e s
  | .len266 e => Sys2Proof.Machine.execLen266 e s
  | .len267 e => Sys2Proof.Machine.execLen267 e s
  | .len268 e => Sys2Proof.Machine.execLen268 e s
  | .len269 e => Sys2Proof.Machine.execLen269 e s
  | .len270 e => Sys2Proof.Machine.execLen270 e s
  | .len271 e => Sys2Proof.Machine.execLen271 e s
  | .len272 e => Sys2Proof.Machine.execLen272 e s
  | .len273 e => Sys2Proof.Machine.execLen273 e s
  | .len274 e => Sys2Proof.Machine.execLen274 e s
  | .len275 e => Sys2Proof.Machine.execLen275 e s
  | .len276 e => Sys2Proof.Machine.execLen276 e s
  | .len277 e => Sys2Proof.Machine.execLen277 e s
  | .len278 e => Sys2Proof.Machine.execLen278 e s
  | .len279 e => Sys2Proof.Machine.execLen279 e s
  | .len280 e => Sys2Proof.Machine.execLen280 e s
  | .len281 e => Sys2Proof.Machine.execLen281 e s
  | .len282 e => Sys2Proof.Machine.execLen282 e s
  | .len283 e => Sys2Proof.Machine.execLen283 e s
  | .len284 e => Sys2Proof.Machine.execLen284 e s
  | .dist4 e => Sys2Proof.Machine.execDist4 e s
  | .dist5 e => Sys2Proof.Machine.execDist5 e s
  | .dist6 e => Sys2Proof.Machine.execDist6 e s
  | .dist7 e => Sys2Proof.Machine.execDist7 e s
  | .dist8 e => Sys2Proof.Machine.execDist8 e s
  | .dist9 e => Sys2Proof.Machine.execDist9 e s
  | .dist10 e => Sys2Proof.Machine.execDist10 e s
  | .dist11 e => Sys2Proof.Machine.execDist11 e s
  | .dist12 e => Sys2Proof.Machine.execDist12 e s
  | .dist13 e => Sys2Proof.Machine.execDist13 e s
  | .dist14 e => Sys2Proof.Machine.execDist14 e s
  | .dist15 e => Sys2Proof.Machine.execDist15 e s
  | .dist16 e => Sys2Proof.Machine.execDist16 e s
  | .dist17 e => Sys2Proof.Machine.execDist17 e s
  | .dist18 e => Sys2Proof.Machine.execDist18 e s
  | .dist19 e => Sys2Proof.Machine.execDist19 e s
  | .dist20 e => Sys2Proof.Machine.execDist20 e s
  | .dist21 e => Sys2Proof.Machine.execDist21 e s
  | .dist22 e => Sys2Proof.Machine.execDist22 e s
  | .dist23 e => Sys2Proof.Machine.execDist23 e s
  | .dist24 e => Sys2Proof.Machine.execDist24 e s
  | .dist25 e => Sys2Proof.Machine.execDist25 e s
  | .dist26 e => Sys2Proof.Machine.execDist26 e s
  | .dist27 e => Sys2Proof.Machine.execDist27 e s
  | .dist28 e => Sys2Proof.Machine.execDist28 e s
  | .dist29 e => Sys2Proof.Machine.execDist29 e s
  | .litDyn v => Sys2Proof.Machine.execLitDyn v s
  | .lenDyn idx e => Sys2Proof.Machine.execLenDyn idx e s
  | .distDyn d e => Sys2Proof.Machine.execDistDyn d e s
  | .distInvalid d => Sys2Proof.Machine.execDistInvalid d s
  | .trailer w => Sys2Proof.Machine.execTrailer w s
  | .start v => Sys2Proof.Machine.execStart v s
  | .abort v => Sys2Proof.Machine.execAbort v s
  | .config v => Sys2Proof.Machine.execConfig v s
  | .clear v => Sys2Proof.Machine.execClear v s
  | .setIndex v => Sys2Proof.Machine.execSetIndex v s
  | .setInLen v => Sys2Proof.Machine.execSetInLen v s
  | .setBufSize v => Sys2Proof.Machine.execSetBufSize v s
  | .writeIgnored off v => Sys2Proof.Machine.execWriteIgnored off v s
  | .readReg off => Sys2Proof.Machine.execReadReg off s
  | .inAccess a => Sys2Proof.Machine.execInAccess a s
  | .outAccess a => Sys2Proof.Machine.execOutAccess a s
  | .cl0 => Sys2Proof.Machine.execCl0 s
  | .cl1 => Sys2Proof.Machine.execCl1 s
  | .cl2 => Sys2Proof.Machine.execCl2 s
  | .cl3 => Sys2Proof.Machine.execCl3 s
  | .cl4 => Sys2Proof.Machine.execCl4 s
  | .cl5 => Sys2Proof.Machine.execCl5 s
  | .cl6 => Sys2Proof.Machine.execCl6 s
  | .cl7 => Sys2Proof.Machine.execCl7 s
  | .cl8 => Sys2Proof.Machine.execCl8 s
  | .cl9 => Sys2Proof.Machine.execCl9 s
  | .cl10 => Sys2Proof.Machine.execCl10 s
  | .cl11 => Sys2Proof.Machine.execCl11 s
  | .cl12 => Sys2Proof.Machine.execCl12 s
  | .cl13 => Sys2Proof.Machine.execCl13 s
  | .cl14 => Sys2Proof.Machine.execCl14 s
  | .cl15 => Sys2Proof.Machine.execCl15 s
  | .lit00 => Sys2Proof.Machine.execLit00 s
  | .lit01 => Sys2Proof.Machine.execLit01 s
  | .lit02 => Sys2Proof.Machine.execLit02 s
  | .lit03 => Sys2Proof.Machine.execLit03 s
  | .lit04 => Sys2Proof.Machine.execLit04 s
  | .lit05 => Sys2Proof.Machine.execLit05 s
  | .lit06 => Sys2Proof.Machine.execLit06 s
  | .lit07 => Sys2Proof.Machine.execLit07 s
  | .lit08 => Sys2Proof.Machine.execLit08 s
  | .lit09 => Sys2Proof.Machine.execLit09 s
  | .lit0A => Sys2Proof.Machine.execLit0A s
  | .lit0B => Sys2Proof.Machine.execLit0B s
  | .lit0C => Sys2Proof.Machine.execLit0C s
  | .lit0D => Sys2Proof.Machine.execLit0D s
  | .lit0E => Sys2Proof.Machine.execLit0E s
  | .lit0F => Sys2Proof.Machine.execLit0F s
  | .lit10 => Sys2Proof.Machine.execLit10 s
  | .lit11 => Sys2Proof.Machine.execLit11 s
  | .lit12 => Sys2Proof.Machine.execLit12 s
  | .lit13 => Sys2Proof.Machine.execLit13 s
  | .lit14 => Sys2Proof.Machine.execLit14 s
  | .lit15 => Sys2Proof.Machine.execLit15 s
  | .lit16 => Sys2Proof.Machine.execLit16 s
  | .lit17 => Sys2Proof.Machine.execLit17 s
  | .lit18 => Sys2Proof.Machine.execLit18 s
  | .lit19 => Sys2Proof.Machine.execLit19 s
  | .lit1A => Sys2Proof.Machine.execLit1A s
  | .lit1B => Sys2Proof.Machine.execLit1B s
  | .lit1C => Sys2Proof.Machine.execLit1C s
  | .lit1D => Sys2Proof.Machine.execLit1D s
  | .lit1E => Sys2Proof.Machine.execLit1E s
  | .lit1F => Sys2Proof.Machine.execLit1F s
  | .lit20 => Sys2Proof.Machine.execLit20 s
  | .lit21 => Sys2Proof.Machine.execLit21 s
  | .lit22 => Sys2Proof.Machine.execLit22 s
  | .lit23 => Sys2Proof.Machine.execLit23 s
  | .lit24 => Sys2Proof.Machine.execLit24 s
  | .lit25 => Sys2Proof.Machine.execLit25 s
  | .lit26 => Sys2Proof.Machine.execLit26 s
  | .lit27 => Sys2Proof.Machine.execLit27 s
  | .lit28 => Sys2Proof.Machine.execLit28 s
  | .lit29 => Sys2Proof.Machine.execLit29 s
  | .lit2A => Sys2Proof.Machine.execLit2A s
  | .lit2B => Sys2Proof.Machine.execLit2B s
  | .lit2C => Sys2Proof.Machine.execLit2C s
  | .lit2D => Sys2Proof.Machine.execLit2D s
  | .lit2E => Sys2Proof.Machine.execLit2E s
  | .lit2F => Sys2Proof.Machine.execLit2F s
  | .lit30 => Sys2Proof.Machine.execLit30 s
  | .lit31 => Sys2Proof.Machine.execLit31 s
  | .lit32 => Sys2Proof.Machine.execLit32 s
  | .lit33 => Sys2Proof.Machine.execLit33 s
  | .lit34 => Sys2Proof.Machine.execLit34 s
  | .lit35 => Sys2Proof.Machine.execLit35 s
  | .lit36 => Sys2Proof.Machine.execLit36 s
  | .lit37 => Sys2Proof.Machine.execLit37 s
  | .lit38 => Sys2Proof.Machine.execLit38 s
  | .lit39 => Sys2Proof.Machine.execLit39 s
  | .lit3A => Sys2Proof.Machine.execLit3A s
  | .lit3B => Sys2Proof.Machine.execLit3B s
  | .lit3C => Sys2Proof.Machine.execLit3C s
  | .lit3D => Sys2Proof.Machine.execLit3D s
  | .lit3E => Sys2Proof.Machine.execLit3E s
  | .lit3F => Sys2Proof.Machine.execLit3F s
  | .lit40 => Sys2Proof.Machine.execLit40 s
  | .lit41 => Sys2Proof.Machine.execLit41 s
  | .lit42 => Sys2Proof.Machine.execLit42 s
  | .lit43 => Sys2Proof.Machine.execLit43 s
  | .lit44 => Sys2Proof.Machine.execLit44 s
  | .lit45 => Sys2Proof.Machine.execLit45 s
  | .lit46 => Sys2Proof.Machine.execLit46 s
  | .lit47 => Sys2Proof.Machine.execLit47 s
  | .lit48 => Sys2Proof.Machine.execLit48 s
  | .lit49 => Sys2Proof.Machine.execLit49 s
  | .lit4A => Sys2Proof.Machine.execLit4A s
  | .lit4B => Sys2Proof.Machine.execLit4B s
  | .lit4C => Sys2Proof.Machine.execLit4C s
  | .lit4D => Sys2Proof.Machine.execLit4D s
  | .lit4E => Sys2Proof.Machine.execLit4E s
  | .lit4F => Sys2Proof.Machine.execLit4F s
  | .lit50 => Sys2Proof.Machine.execLit50 s
  | .lit51 => Sys2Proof.Machine.execLit51 s
  | .lit52 => Sys2Proof.Machine.execLit52 s
  | .lit53 => Sys2Proof.Machine.execLit53 s
  | .lit54 => Sys2Proof.Machine.execLit54 s
  | .lit55 => Sys2Proof.Machine.execLit55 s
  | .lit56 => Sys2Proof.Machine.execLit56 s
  | .lit57 => Sys2Proof.Machine.execLit57 s
  | .lit58 => Sys2Proof.Machine.execLit58 s
  | .lit59 => Sys2Proof.Machine.execLit59 s
  | .lit5A => Sys2Proof.Machine.execLit5A s
  | .lit5B => Sys2Proof.Machine.execLit5B s
  | .lit5C => Sys2Proof.Machine.execLit5C s
  | .lit5D => Sys2Proof.Machine.execLit5D s
  | .lit5E => Sys2Proof.Machine.execLit5E s
  | .lit5F => Sys2Proof.Machine.execLit5F s
  | .lit60 => Sys2Proof.Machine.execLit60 s
  | .lit61 => Sys2Proof.Machine.execLit61 s
  | .lit62 => Sys2Proof.Machine.execLit62 s
  | .lit63 => Sys2Proof.Machine.execLit63 s
  | .lit64 => Sys2Proof.Machine.execLit64 s
  | .lit65 => Sys2Proof.Machine.execLit65 s
  | .lit66 => Sys2Proof.Machine.execLit66 s
  | .lit67 => Sys2Proof.Machine.execLit67 s
  | .lit68 => Sys2Proof.Machine.execLit68 s
  | .lit69 => Sys2Proof.Machine.execLit69 s
  | .lit6A => Sys2Proof.Machine.execLit6A s
  | .lit6B => Sys2Proof.Machine.execLit6B s
  | .lit6C => Sys2Proof.Machine.execLit6C s
  | .lit6D => Sys2Proof.Machine.execLit6D s
  | .lit6E => Sys2Proof.Machine.execLit6E s
  | .lit6F => Sys2Proof.Machine.execLit6F s
  | .lit70 => Sys2Proof.Machine.execLit70 s
  | .lit71 => Sys2Proof.Machine.execLit71 s
  | .lit72 => Sys2Proof.Machine.execLit72 s
  | .lit73 => Sys2Proof.Machine.execLit73 s
  | .lit74 => Sys2Proof.Machine.execLit74 s
  | .lit75 => Sys2Proof.Machine.execLit75 s
  | .lit76 => Sys2Proof.Machine.execLit76 s
  | .lit77 => Sys2Proof.Machine.execLit77 s
  | .lit78 => Sys2Proof.Machine.execLit78 s
  | .lit79 => Sys2Proof.Machine.execLit79 s
  | .lit7A => Sys2Proof.Machine.execLit7A s
  | .lit7B => Sys2Proof.Machine.execLit7B s
  | .lit7C => Sys2Proof.Machine.execLit7C s
  | .lit7D => Sys2Proof.Machine.execLit7D s
  | .lit7E => Sys2Proof.Machine.execLit7E s
  | .lit7F => Sys2Proof.Machine.execLit7F s
  | .lit80 => Sys2Proof.Machine.execLit80 s
  | .lit81 => Sys2Proof.Machine.execLit81 s
  | .lit82 => Sys2Proof.Machine.execLit82 s
  | .lit83 => Sys2Proof.Machine.execLit83 s
  | .lit84 => Sys2Proof.Machine.execLit84 s
  | .lit85 => Sys2Proof.Machine.execLit85 s
  | .lit86 => Sys2Proof.Machine.execLit86 s
  | .lit87 => Sys2Proof.Machine.execLit87 s
  | .lit88 => Sys2Proof.Machine.execLit88 s
  | .lit89 => Sys2Proof.Machine.execLit89 s
  | .lit8A => Sys2Proof.Machine.execLit8A s
  | .lit8B => Sys2Proof.Machine.execLit8B s
  | .lit8C => Sys2Proof.Machine.execLit8C s
  | .lit8D => Sys2Proof.Machine.execLit8D s
  | .lit8E => Sys2Proof.Machine.execLit8E s
  | .lit8F => Sys2Proof.Machine.execLit8F s
  | .lit90 => Sys2Proof.Machine.execLit90 s
  | .lit91 => Sys2Proof.Machine.execLit91 s
  | .lit92 => Sys2Proof.Machine.execLit92 s
  | .lit93 => Sys2Proof.Machine.execLit93 s
  | .lit94 => Sys2Proof.Machine.execLit94 s
  | .lit95 => Sys2Proof.Machine.execLit95 s
  | .lit96 => Sys2Proof.Machine.execLit96 s
  | .lit97 => Sys2Proof.Machine.execLit97 s
  | .lit98 => Sys2Proof.Machine.execLit98 s
  | .lit99 => Sys2Proof.Machine.execLit99 s
  | .lit9A => Sys2Proof.Machine.execLit9A s
  | .lit9B => Sys2Proof.Machine.execLit9B s
  | .lit9C => Sys2Proof.Machine.execLit9C s
  | .lit9D => Sys2Proof.Machine.execLit9D s
  | .lit9E => Sys2Proof.Machine.execLit9E s
  | .lit9F => Sys2Proof.Machine.execLit9F s
  | .litA0 => Sys2Proof.Machine.execLitA0 s
  | .litA1 => Sys2Proof.Machine.execLitA1 s
  | .litA2 => Sys2Proof.Machine.execLitA2 s
  | .litA3 => Sys2Proof.Machine.execLitA3 s
  | .litA4 => Sys2Proof.Machine.execLitA4 s
  | .litA5 => Sys2Proof.Machine.execLitA5 s
  | .litA6 => Sys2Proof.Machine.execLitA6 s
  | .litA7 => Sys2Proof.Machine.execLitA7 s
  | .litA8 => Sys2Proof.Machine.execLitA8 s
  | .litA9 => Sys2Proof.Machine.execLitA9 s
  | .litAA => Sys2Proof.Machine.execLitAA s
  | .litAB => Sys2Proof.Machine.execLitAB s
  | .litAC => Sys2Proof.Machine.execLitAC s
  | .litAD => Sys2Proof.Machine.execLitAD s
  | .litAE => Sys2Proof.Machine.execLitAE s
  | .litAF => Sys2Proof.Machine.execLitAF s
  | .litB0 => Sys2Proof.Machine.execLitB0 s
  | .litB1 => Sys2Proof.Machine.execLitB1 s
  | .litB2 => Sys2Proof.Machine.execLitB2 s
  | .litB3 => Sys2Proof.Machine.execLitB3 s
  | .litB4 => Sys2Proof.Machine.execLitB4 s
  | .litB5 => Sys2Proof.Machine.execLitB5 s
  | .litB6 => Sys2Proof.Machine.execLitB6 s
  | .litB7 => Sys2Proof.Machine.execLitB7 s
  | .litB8 => Sys2Proof.Machine.execLitB8 s
  | .litB9 => Sys2Proof.Machine.execLitB9 s
  | .litBA => Sys2Proof.Machine.execLitBA s
  | .litBB => Sys2Proof.Machine.execLitBB s
  | .litBC => Sys2Proof.Machine.execLitBC s
  | .litBD => Sys2Proof.Machine.execLitBD s
  | .litBE => Sys2Proof.Machine.execLitBE s
  | .litBF => Sys2Proof.Machine.execLitBF s
  | .litC0 => Sys2Proof.Machine.execLitC0 s
  | .litC1 => Sys2Proof.Machine.execLitC1 s
  | .litC2 => Sys2Proof.Machine.execLitC2 s
  | .litC3 => Sys2Proof.Machine.execLitC3 s
  | .litC4 => Sys2Proof.Machine.execLitC4 s
  | .litC5 => Sys2Proof.Machine.execLitC5 s
  | .litC6 => Sys2Proof.Machine.execLitC6 s
  | .litC7 => Sys2Proof.Machine.execLitC7 s
  | .litC8 => Sys2Proof.Machine.execLitC8 s
  | .litC9 => Sys2Proof.Machine.execLitC9 s
  | .litCA => Sys2Proof.Machine.execLitCA s
  | .litCB => Sys2Proof.Machine.execLitCB s
  | .litCC => Sys2Proof.Machine.execLitCC s
  | .litCD => Sys2Proof.Machine.execLitCD s
  | .litCE => Sys2Proof.Machine.execLitCE s
  | .litCF => Sys2Proof.Machine.execLitCF s
  | .litD0 => Sys2Proof.Machine.execLitD0 s
  | .litD1 => Sys2Proof.Machine.execLitD1 s
  | .litD2 => Sys2Proof.Machine.execLitD2 s
  | .litD3 => Sys2Proof.Machine.execLitD3 s
  | .litD4 => Sys2Proof.Machine.execLitD4 s
  | .litD5 => Sys2Proof.Machine.execLitD5 s
  | .litD6 => Sys2Proof.Machine.execLitD6 s
  | .litD7 => Sys2Proof.Machine.execLitD7 s
  | .litD8 => Sys2Proof.Machine.execLitD8 s
  | .litD9 => Sys2Proof.Machine.execLitD9 s
  | .litDA => Sys2Proof.Machine.execLitDA s
  | .litDB => Sys2Proof.Machine.execLitDB s
  | .litDC => Sys2Proof.Machine.execLitDC s
  | .litDD => Sys2Proof.Machine.execLitDD s
  | .litDE => Sys2Proof.Machine.execLitDE s
  | .litDF => Sys2Proof.Machine.execLitDF s
  | .litE0 => Sys2Proof.Machine.execLitE0 s
  | .litE1 => Sys2Proof.Machine.execLitE1 s
  | .litE2 => Sys2Proof.Machine.execLitE2 s
  | .litE3 => Sys2Proof.Machine.execLitE3 s
  | .litE4 => Sys2Proof.Machine.execLitE4 s
  | .litE5 => Sys2Proof.Machine.execLitE5 s
  | .litE6 => Sys2Proof.Machine.execLitE6 s
  | .litE7 => Sys2Proof.Machine.execLitE7 s
  | .litE8 => Sys2Proof.Machine.execLitE8 s
  | .litE9 => Sys2Proof.Machine.execLitE9 s
  | .litEA => Sys2Proof.Machine.execLitEA s
  | .litEB => Sys2Proof.Machine.execLitEB s
  | .litEC => Sys2Proof.Machine.execLitEC s
  | .litED => Sys2Proof.Machine.execLitED s
  | .litEE => Sys2Proof.Machine.execLitEE s
  | .litEF => Sys2Proof.Machine.execLitEF s
  | .litF0 => Sys2Proof.Machine.execLitF0 s
  | .litF1 => Sys2Proof.Machine.execLitF1 s
  | .litF2 => Sys2Proof.Machine.execLitF2 s
  | .litF3 => Sys2Proof.Machine.execLitF3 s
  | .litF4 => Sys2Proof.Machine.execLitF4 s
  | .litF5 => Sys2Proof.Machine.execLitF5 s
  | .litF6 => Sys2Proof.Machine.execLitF6 s
  | .litF7 => Sys2Proof.Machine.execLitF7 s
  | .litF8 => Sys2Proof.Machine.execLitF8 s
  | .litF9 => Sys2Proof.Machine.execLitF9 s
  | .litFA => Sys2Proof.Machine.execLitFA s
  | .litFB => Sys2Proof.Machine.execLitFB s
  | .litFC => Sys2Proof.Machine.execLitFC s
  | .litFD => Sys2Proof.Machine.execLitFD s
  | .litFE => Sys2Proof.Machine.execLitFE s
  | .litFF => Sys2Proof.Machine.execLitFF s
  | .eob => Sys2Proof.Machine.execEob s
  | .len257 => Sys2Proof.Machine.execLen257 s
  | .len258 => Sys2Proof.Machine.execLen258 s
  | .len259 => Sys2Proof.Machine.execLen259 s
  | .len260 => Sys2Proof.Machine.execLen260 s
  | .len261 => Sys2Proof.Machine.execLen261 s
  | .len262 => Sys2Proof.Machine.execLen262 s
  | .len263 => Sys2Proof.Machine.execLen263 s
  | .len264 => Sys2Proof.Machine.execLen264 s
  | .len285 => Sys2Proof.Machine.execLen285 s
  | .len286 => Sys2Proof.Machine.execLen286 s
  | .len287 => Sys2Proof.Machine.execLen287 s
  | .dist0 => Sys2Proof.Machine.execDist0 s
  | .dist1 => Sys2Proof.Machine.execDist1 s
  | .dist2 => Sys2Proof.Machine.execDist2 s
  | .dist3 => Sys2Proof.Machine.execDist3 s
  | .distInvalid11110 => Sys2Proof.Machine.execDistInvalid11110 s
  | .distInvalid11111 => Sys2Proof.Machine.execDistInvalid11111 s
  | .eobDyn => Sys2Proof.Machine.execEobDyn s
  | .startStep => Sys2Proof.Machine.execStartStep s
  | .dynbuild => Sys2Proof.Machine.execDynbuild s
  | .finish => Sys2Proof.Machine.execFinish s
  | .rst => Sys2Proof.Machine.execRst s

end Sys2Proof.Machine
end

