-- ==== Sys2Proof/WellFormed.lean ====
section
/-! DEFINITION. Well-formedness: the checks on an instruction's operands that its bit-vector types do not make. A constructor that
is not named below admits only values its encoding can hold. -/

namespace Sys2Proof

/-- The instruction is one that its opcode-table row can encode. -/
def Instr.wellFormed : Instr → Bool
  -- R70: 31 length indexes, and extra bits that fit LEXT[idx] bits
  | .lenDyn idx e => idx.toNat ≤ 30 && e.toNat < 2 ^ lengthExtraBits idx.toNat
  -- R71: 30 distance symbols with an entry, and extra bits that fit DEXT[d] bits
  | .distDyn d e => d.toNat ≤ 29 && e.toNat < 2 ^ distanceExtraBits d.toNat
  -- R71: the two distance symbols without an entry
  | .distInvalid d => 30 ≤ d.toNat
  -- R79: the commands of a CTRL write are told apart by bits 1:0
  | .start v => v.getLsbD 0 && !v.getLsbD 1
  | .abort v => v.getLsbD 1
  | .config v => !v.getLsbD 0 && !v.getLsbD 1
  -- R175: the read-only and reserved offsets, one aligned word each (R47)
  | .writeIgnored off _ => off.toNat % 4 == 0 && 0x14 ≤ off.toNat
  -- R176, R47: one aligned word
  | .readReg off => off.toNat % 4 == 0
  -- R47: the offset is a multiple of the width
  | .inAccess a => a.offset % a.width.bytes == 0
  | .outAccess a => a.offset % a.width.bytes == 0
  | _ => true

end Sys2Proof
end

