-- ==== Sys2Proof/Decode.lean ====
section
/-! DEFINITION. The decoder: from stream bits (30_encoding.md R60 to R78) and from host bus accesses (R79, 20_memory.md R46 to R49) to
instructions, rejecting by the error's name; then the encoder, written from the same encoding tables; then the host's view of the
opcode table's words. -/

namespace Sys2Proof

open Sys2Proof.Machine

/-! ## Symbols to instructions -/

/-- LIT 0x00 .. LIT 0xFF of the fixed code, in symbol order (R69). -/
def fixedLiterals : List Instr :=
  List.flatten [
    [.lit00, .lit01, .lit02, .lit03, .lit04, .lit05, .lit06, .lit07, .lit08, .lit09, .lit0A, .lit0B, .lit0C, .lit0D, .lit0E, .lit0F],
    [.lit10, .lit11, .lit12, .lit13, .lit14, .lit15, .lit16, .lit17, .lit18, .lit19, .lit1A, .lit1B, .lit1C, .lit1D, .lit1E, .lit1F],
    [.lit20, .lit21, .lit22, .lit23, .lit24, .lit25, .lit26, .lit27, .lit28, .lit29, .lit2A, .lit2B, .lit2C, .lit2D, .lit2E, .lit2F],
    [.lit30, .lit31, .lit32, .lit33, .lit34, .lit35, .lit36, .lit37, .lit38, .lit39, .lit3A, .lit3B, .lit3C, .lit3D, .lit3E, .lit3F],
    [.lit40, .lit41, .lit42, .lit43, .lit44, .lit45, .lit46, .lit47, .lit48, .lit49, .lit4A, .lit4B, .lit4C, .lit4D, .lit4E, .lit4F],
    [.lit50, .lit51, .lit52, .lit53, .lit54, .lit55, .lit56, .lit57, .lit58, .lit59, .lit5A, .lit5B, .lit5C, .lit5D, .lit5E, .lit5F],
    [.lit60, .lit61, .lit62, .lit63, .lit64, .lit65, .lit66, .lit67, .lit68, .lit69, .lit6A, .lit6B, .lit6C, .lit6D, .lit6E, .lit6F],
    [.lit70, .lit71, .lit72, .lit73, .lit74, .lit75, .lit76, .lit77, .lit78, .lit79, .lit7A, .lit7B, .lit7C, .lit7D, .lit7E, .lit7F],
    [.lit80, .lit81, .lit82, .lit83, .lit84, .lit85, .lit86, .lit87, .lit88, .lit89, .lit8A, .lit8B, .lit8C, .lit8D, .lit8E, .lit8F],
    [.lit90, .lit91, .lit92, .lit93, .lit94, .lit95, .lit96, .lit97, .lit98, .lit99, .lit9A, .lit9B, .lit9C, .lit9D, .lit9E, .lit9F],
    [.litA0, .litA1, .litA2, .litA3, .litA4, .litA5, .litA6, .litA7, .litA8, .litA9, .litAA, .litAB, .litAC, .litAD, .litAE, .litAF],
    [.litB0, .litB1, .litB2, .litB3, .litB4, .litB5, .litB6, .litB7, .litB8, .litB9, .litBA, .litBB, .litBC, .litBD, .litBE, .litBF],
    [.litC0, .litC1, .litC2, .litC3, .litC4, .litC5, .litC6, .litC7, .litC8, .litC9, .litCA, .litCB, .litCC, .litCD, .litCE, .litCF],
    [.litD0, .litD1, .litD2, .litD3, .litD4, .litD5, .litD6, .litD7, .litD8, .litD9, .litDA, .litDB, .litDC, .litDD, .litDE, .litDF],
    [.litE0, .litE1, .litE2, .litE3, .litE4, .litE5, .litE6, .litE7, .litE8, .litE9, .litEA, .litEB, .litEC, .litED, .litEE, .litEF],
    [.litF0, .litF1, .litF2, .litF3, .litF4, .litF5, .litF6, .litF7, .litF8, .litF9, .litFA, .litFB, .litFC, .litFD, .litFE, .litFF]]

/-- LEN 257 .. LEN 287 of the fixed code, in symbol order, each from the value of its extra bits (R70). -/
def fixedLengths : List (Nat → Instr) :=
  List.flatten [
    [fun _ => .len257, fun _ => .len258, fun _ => .len259, fun _ => .len260],
    [fun _ => .len261, fun _ => .len262, fun _ => .len263, fun _ => .len264],
    [fun e => .len265 (BitVec.ofNat 1 e), fun e => .len266 (BitVec.ofNat 1 e), fun e => .len267 (BitVec.ofNat 1 e), fun e => .len268 (BitVec.ofNat 1 e)],
    [fun e => .len269 (BitVec.ofNat 2 e), fun e => .len270 (BitVec.ofNat 2 e), fun e => .len271 (BitVec.ofNat 2 e), fun e => .len272 (BitVec.ofNat 2 e)],
    [fun e => .len273 (BitVec.ofNat 3 e), fun e => .len274 (BitVec.ofNat 3 e), fun e => .len275 (BitVec.ofNat 3 e), fun e => .len276 (BitVec.ofNat 3 e)],
    [fun e => .len277 (BitVec.ofNat 4 e), fun e => .len278 (BitVec.ofNat 4 e), fun e => .len279 (BitVec.ofNat 4 e), fun e => .len280 (BitVec.ofNat 4 e)],
    [fun e => .len281 (BitVec.ofNat 5 e), fun e => .len282 (BitVec.ofNat 5 e), fun e => .len283 (BitVec.ofNat 5 e), fun e => .len284 (BitVec.ofNat 5 e)],
    [fun _ => .len285, fun _ => .len286, fun _ => .len287]]

/-- DIST 0 .. DIST 29 of the fixed code, in symbol order, each from the value of its extra bits (R71). -/
def fixedDistances : List (Nat → Instr) :=
  List.flatten [
    [fun _ => .dist0, fun _ => .dist1, fun _ => .dist2, fun _ => .dist3],
    [fun e => .dist4 (BitVec.ofNat 1 e), fun e => .dist5 (BitVec.ofNat 1 e), fun e => .dist6 (BitVec.ofNat 2 e), fun e => .dist7 (BitVec.ofNat 2 e)],
    [fun e => .dist8 (BitVec.ofNat 3 e), fun e => .dist9 (BitVec.ofNat 3 e), fun e => .dist10 (BitVec.ofNat 4 e), fun e => .dist11 (BitVec.ofNat 4 e)],
    [fun e => .dist12 (BitVec.ofNat 5 e), fun e => .dist13 (BitVec.ofNat 5 e), fun e => .dist14 (BitVec.ofNat 6 e), fun e => .dist15 (BitVec.ofNat 6 e)],
    [fun e => .dist16 (BitVec.ofNat 7 e), fun e => .dist17 (BitVec.ofNat 7 e), fun e => .dist18 (BitVec.ofNat 8 e), fun e => .dist19 (BitVec.ofNat 8 e)],
    [fun e => .dist20 (BitVec.ofNat 9 e), fun e => .dist21 (BitVec.ofNat 9 e), fun e => .dist22 (BitVec.ofNat 10 e), fun e => .dist23 (BitVec.ofNat 10 e)],
    [fun e => .dist24 (BitVec.ofNat 11 e), fun e => .dist25 (BitVec.ofNat 11 e), fun e => .dist26 (BitVec.ofNat 12 e), fun e => .dist27 (BitVec.ofNat 12 e)],
    [fun e => .dist28 (BitVec.ofNat 13 e), fun e => .dist29 (BitVec.ofNat 13 e)]]

/-- CL 0 .. CL 15, in symbol order (R68). -/
def clLiterals : List Instr :=
  [.cl0, .cl1, .cl2, .cl3, .cl4, .cl5, .cl6, .cl7, .cl8, .cl9, .cl10, .cl11, .cl12, .cl13, .cl14, .cl15]

/-- The instruction of a block header: BFINAL and BTYPE (R64). -/
def blockOf (f t : Nat) : Instr :=
  if t = 0 then .blockStored (BitVec.ofNat 1 f)
  else if t = 1 then .blockFixed (BitVec.ofNat 1 f)
  else if t = 2 then .blockDynamic (BitVec.ofNat 1 f)
  else .blockReserved (BitVec.ofNat 1 f)

/-- The instruction of a code-length symbol and its extra bits (R68; the CLENS frame's last branch takes every symbol above 17). -/
def clOf (sym e : Nat) : Instr :=
  if sym ≤ 15 then clLiterals.getD sym .cl0
  else if sym = 16 then .cl16 (BitVec.ofNat 2 e)
  else if sym = 17 then .cl17 (BitVec.ofNat 3 e)
  else .cl18 (BitVec.ofNat 7 e)

/-- The length index of a literal/length symbol above 256. No symbol is above 287 (R69), and one that is is read as 287
(assumption 14). -/
def lengthIndex (sym : Nat) : Nat := Nat.min (sym - 257) 30

/-- The extra bits that follow a literal/length symbol (R70). -/
def litLenExtraBits (sym : Nat) : Nat := if sym ≤ 256 then 0 else lengthExtraBits (lengthIndex sym)

/-- The instruction of a literal/length symbol of the fixed code (R69, R73). -/
def fixedLitLenOf (sym e : Nat) : Instr :=
  if sym < 256 then fixedLiterals.getD sym .eob
  else if sym = 256 then .eob
  else (fixedLengths.getD (lengthIndex sym) fun _ => .eob) e

/-- The instruction of a literal/length symbol of a dynamic table (R69). -/
def dynLitLenOf (sym e : Nat) : Instr :=
  if sym < 256 then .litDyn (BitVec.ofNat 8 sym)
  else if sym = 256 then .eobDyn
  else .lenDyn (BitVec.ofNat 5 (lengthIndex sym)) (BitVec.ofNat 5 e)

/-- The instruction of a distance symbol with an entry (d ≤ 29) of the fixed code (R71, R74). -/
def fixedDistanceOf (d e : Nat) : Instr := (fixedDistances.getD d fun _ => .distInvalid11111) e

/-- The instruction of a distance symbol with an entry (d ≤ 29) of a dynamic table (R71). -/
def dynDistanceOf (d e : Nat) : Instr := .distDyn (BitVec.ofNat 5 d) (BitVec.ofNat 13 e)

/-! ## The decoder of the stream -/

/-- Where in the stream's grammar an element stands; a table-coded element names the table its code is read with (R78). -/
inductive Ctx where
  | zhdr
  | block
  | stored
  | data
  | dyn
  | cll
  | cl (t : Table)
  | litLen (fixed : Bool) (t : Table)
  | dist (fixed : Bool) (t : Table)
  | trailer
deriving DecidableEq, Repr

/-- What the decoder answers: an instruction and the reader after its bits; a rejection by the error's name, with the reader as the
reads before it left it and the fields already read; or an IN address that does not exist. -/
inductive Decoded where
  | instr (i : Instr) (r : Reader)
  | raise (e : ErrorCode) (r : Reader) (got : List Nat)
  | noByte (a : Nat)
deriving DecidableEq, Repr

/-- Go on with a read's value, or reject with the fields already read. -/
def Machine.Read.thenDecode (x : Read α) (got : List Nat) (k : α → Reader → Decoded) : Decoded :=
  match x with
  | .ok a r => k a r
  | .raise e r => .raise e r got
  | .noByte a => .noByte a

/-- The zlib header (R63, R111): two whole bytes; a short header is TruncatedInput and IP is not advanced. -/
def decodeZhdr (byte : Nat → Option Byte) (len : Nat) (r : Reader) : Decoded :=
  if len < r.ip + 2 then .raise .truncatedInput r []
  else (readByte byte r).thenDecode [] fun cmf r => (readByte byte r).thenDecode [] fun flg r => .instr (.zhdr cmf flg) r

/-- A block header (R64, R112): one bit, then two. -/
def decodeBlock (byte : Nat → Option Byte) (len : Nat) (r : Reader) : Decoded :=
  (readBits byte len 1 r).thenDecode [] fun f r => (readBits byte len 2 r).thenDecode [f] fun t r => .instr (blockOf f t) r

/-- Two bytes as a little-endian 16-bit field (20_memory.md R45). -/
def littleEndian16 (b₀ b₁ : Byte) : BitVec 16 := b₁ ++ b₀

/-- Four bytes as a big-endian 32-bit field (20_memory.md R45). -/
def bigEndian32 (b₀ b₁ b₂ b₃ : Byte) : BitVec 32 := b₀ ++ b₁ ++ b₂ ++ b₃

/-- LEN and NLEN of a stored block (R65, R113): after byteAlign, four whole bytes; a missing one is InvalidStoredBlockHeader. -/
def decodeStored (byte : Nat → Option Byte) (len : Nat) (r : Reader) : Decoded :=
  if len < r.ip + 4 then .raise .invalidStoredBlockHeader r.byteAlign []
  else
    (readByte byte r.byteAlign).thenDecode [] fun b₀ r => (readByte byte r).thenDecode [] fun b₁ r =>
    (readByte byte r).thenDecode [] fun b₂ r => (readByte byte r).thenDecode [] fun b₃ r =>
      .instr (.lenNlen (littleEndian16 b₀ b₁) (littleEndian16 b₂ b₃)) r

/-- One stored data byte (R65, R113). -/
def decodeData (byte : Nat → Option Byte) (r : Reader) : Decoded :=
  (readByte byte r).thenDecode [] fun b r => .instr (.data b) r

/-- The three counts of a dynamic header (R66, R114). -/
def decodeDyn (byte : Nat → Option Byte) (len : Nat) (r : Reader) : Decoded :=
  (readBits byte len 5 r).thenDecode [] fun a r => (readBits byte len 5 r).thenDecode [a] fun b r =>
  (readBits byte len 4 r).thenDecode [a, b] fun c r =>
    .instr (.dyn (BitVec.ofNat 5 a) (BitVec.ofNat 5 b) (BitVec.ofNat 4 c)) r

/-- One code-length code length (R66, R114). -/
def decodeCll (byte : Nat → Option Byte) (len : Nat) (r : Reader) : Decoded :=
  (readBits byte len 3 r).thenDecode [] fun l r => .instr (.cll (BitVec.ofNat 3 l)) r

/-- A code-length symbol with its extra bits (R68, R115 to R118). -/
def decodeCl (byte : Nat → Option Byte) (len : Nat) (t : Table) (r : Reader) : Decoded :=
  (readCode byte len t r).thenDecode [] fun sym r =>
  (readBits byte len (clExtraBits sym) r).thenDecode [] fun e r => .instr (clOf sym e) r

/-- A literal/length symbol with a length's extra bits (R69, R70, R140, R143). -/
def decodeLitLen (byte : Nat → Option Byte) (len : Nat) (fixed : Bool) (t : Table) (r : Reader) : Decoded :=
  (readCode byte len t r).thenDecode [] fun sym r =>
  (readBits byte len (litLenExtraBits sym) r).thenDecode [] fun e r =>
    .instr (if fixed then fixedLitLenOf sym e else dynLitLenOf sym e) r

/-- The fixed distance codes that select an empty slot are instructions of their own, which consume nothing (R74, R92). -/
def decodeEmptyDistance (e : ErrorCode) (fixed : Bool) (r : Reader) : Decoded :=
  if e = .invalidCode ∧ fixed = true ∧ r.buf % 32 = 15 then .instr .distInvalid11110 r
  else if e = .invalidCode ∧ fixed = true ∧ r.buf % 32 = 31 then .instr .distInvalid11111 r
  else .raise e r []

/-- A distance symbol with its extra bits; 30 and 31 have no entry and no extra bits (R71, R143). -/
def decodeDist (byte : Nat → Option Byte) (len : Nat) (fixed : Bool) (t : Table) (r : Reader) : Decoded :=
  match readCode byte len t r with
  | .ok d r =>
    if 30 ≤ d then .instr (.distInvalid (if d = 30 then 30 else 31)) r
    else
      (readBits byte len (distanceExtraBits d) r).thenDecode [] fun e r =>
        .instr (if fixed then fixedDistanceOf d e else dynDistanceOf d e) r
  | .raise e r => decodeEmptyDistance e fixed r
  | .noByte a => .noByte a

/-- The zlib trailer (R75, R163): byteAlign first, then four whole bytes; a short trailer is TruncatedInput and IP is not advanced. -/
def decodeTrailer (byte : Nat → Option Byte) (len : Nat) (r : Reader) : Decoded :=
  if len < r.ip + 4 then .raise .truncatedInput r.byteAlign []
  else
    (readByte byte r.byteAlign).thenDecode [] fun b₀ r => (readByte byte r).thenDecode [] fun b₁ r =>
    (readByte byte r).thenDecode [] fun b₂ r => (readByte byte r).thenDecode [] fun b₃ r =>
      .instr (.trailer (bigEndian32 b₀ b₁ b₂ b₃)) r

/-- The decoder: the element at a place of the stream's grammar, from the input bytes and the reader's position. -/
def decode (c : Ctx) (byte : Nat → Option Byte) (len : Nat) (r : Reader) : Decoded :=
  match c with
  | .zhdr => decodeZhdr byte len r
  | .block => decodeBlock byte len r
  | .stored => decodeStored byte len r
  | .data => decodeData byte r
  | .dyn => decodeDyn byte len r
  | .cll => decodeCll byte len r
  | .cl t => decodeCl byte len t r
  | .litLen fixed t => decodeLitLen byte len fixed t r
  | .dist fixed t => decodeDist byte len fixed t r
  | .trailer => decodeTrailer byte len r

/-! ## The decoder of the host bus -/

/-- A 32-bit write to a register offset (R79, R175; R179: ABORT wins over START). -/
def decodeRegWrite (off : Nat) (v : Word) : Instr :=
  if off = 0x00 then if v.getLsbD 1 then .abort v else if v.getLsbD 0 then .start v else .config v
  else if off = 0x04 then .clear v
  else if off = 0x08 then .setIndex v
  else if off = 0x0C then .setInLen v
  else if off = 0x10 then .setBufSize v
  else .writeIgnored (BitVec.ofNat 8 off) v

/-- An access at an offset of the register window: one aligned 32-bit word, or refused (R47). -/
def decodeReg (off bytes : Nat) (wdata : Option Word) : Option Instr :=
  if bytes = 4 ∧ off % 4 = 0 then
    match wdata with
    | some v => some (decodeRegWrite off v)
    | none => some (.readReg (BitVec.ofNat 8 off))
  else none

/-- An access at an offset of a memory window of `size` bytes: 1, 2 or 4 aligned bytes inside the window, or refused (R47). -/
def decodeMem (size off bytes : Nat) (wdata : Option Word) : Option MemAccess :=
  match Width.ofBytes bytes with
  | some w =>
    if MemAccess.legal size { offset := off, width := w, wdata := wdata } then some { offset := off, width := w, wdata := wdata }
    else none
  | none => none

/-- A host bus access: the window it lies in decodes it (20_memory.md R49); none is an access that R47 refuses. -/
def decodeBus (p : Params) (b : BusAccess) : Option Instr :=
  if p.regBase ≤ b.addr ∧ b.addr < p.regBase + regWindowSize then decodeReg (b.addr - p.regBase) b.bytes b.wdata
  else if p.inBase ≤ b.addr ∧ b.addr < p.inBase + p.inMemSize then
    (decodeMem p.inMemSize (b.addr - p.inBase) b.bytes b.wdata).map .inAccess
  else if p.outBase ≤ b.addr ∧ b.addr < p.outBase + p.outMemSize then
    (decodeMem p.outMemSize (b.addr - p.outBase) b.bytes b.wdata).map .outAccess
  else none

/-! ## The encoder -/

/-- The byte of a LIT row of the fixed code. -/
def Instr.fixedLiteral : Instr → Option Byte
  | .lit00 => some 0x00
  | .lit01 => some 0x01
  | .lit02 => some 0x02
  | .lit03 => some 0x03
  | .lit04 => some 0x04
  | .lit05 => some 0x05
  | .lit06 => some 0x06
  | .lit07 => some 0x07
  | .lit08 => some 0x08
  | .lit09 => some 0x09
  | .lit0A => some 0x0A
  | .lit0B => some 0x0B
  | .lit0C => some 0x0C
  | .lit0D => some 0x0D
  | .lit0E => some 0x0E
  | .lit0F => some 0x0F
  | .lit10 => some 0x10
  | .lit11 => some 0x11
  | .lit12 => some 0x12
  | .lit13 => some 0x13
  | .lit14 => some 0x14
  | .lit15 => some 0x15
  | .lit16 => some 0x16
  | .lit17 => some 0x17
  | .lit18 => some 0x18
  | .lit19 => some 0x19
  | .lit1A => some 0x1A
  | .lit1B => some 0x1B
  | .lit1C => some 0x1C
  | .lit1D => some 0x1D
  | .lit1E => some 0x1E
  | .lit1F => some 0x1F
  | .lit20 => some 0x20
  | .lit21 => some 0x21
  | .lit22 => some 0x22
  | .lit23 => some 0x23
  | .lit24 => some 0x24
  | .lit25 => some 0x25
  | .lit26 => some 0x26
  | .lit27 => some 0x27
  | .lit28 => some 0x28
  | .lit29 => some 0x29
  | .lit2A => some 0x2A
  | .lit2B => some 0x2B
  | .lit2C => some 0x2C
  | .lit2D => some 0x2D
  | .lit2E => some 0x2E
  | .lit2F => some 0x2F
  | .lit30 => some 0x30
  | .lit31 => some 0x31
  | .lit32 => some 0x32
  | .lit33 => some 0x33
  | .lit34 => some 0x34
  | .lit35 => some 0x35
  | .lit36 => some 0x36
  | .lit37 => some 0x37
  | .lit38 => some 0x38
  | .lit39 => some 0x39
  | .lit3A => some 0x3A
  | .lit3B => some 0x3B
  | .lit3C => some 0x3C
  | .lit3D => some 0x3D
  | .lit3E => some 0x3E
  | .lit3F => some 0x3F
  | .lit40 => some 0x40
  | .lit41 => some 0x41
  | .lit42 => some 0x42
  | .lit43 => some 0x43
  | .lit44 => some 0x44
  | .lit45 => some 0x45
  | .lit46 => some 0x46
  | .lit47 => some 0x47
  | .lit48 => some 0x48
  | .lit49 => some 0x49
  | .lit4A => some 0x4A
  | .lit4B => some 0x4B
  | .lit4C => some 0x4C
  | .lit4D => some 0x4D
  | .lit4E => some 0x4E
  | .lit4F => some 0x4F
  | .lit50 => some 0x50
  | .lit51 => some 0x51
  | .lit52 => some 0x52
  | .lit53 => some 0x53
  | .lit54 => some 0x54
  | .lit55 => some 0x55
  | .lit56 => some 0x56
  | .lit57 => some 0x57
  | .lit58 => some 0x58
  | .lit59 => some 0x59
  | .lit5A => some 0x5A
  | .lit5B => some 0x5B
  | .lit5C => some 0x5C
  | .lit5D => some 0x5D
  | .lit5E => some 0x5E
  | .lit5F => some 0x5F
  | .lit60 => some 0x60
  | .lit61 => some 0x61
  | .lit62 => some 0x62
  | .lit63 => some 0x63
  | .lit64 => some 0x64
  | .lit65 => some 0x65
  | .lit66 => some 0x66
  | .lit67 => some 0x67
  | .lit68 => some 0x68
  | .lit69 => some 0x69
  | .lit6A => some 0x6A
  | .lit6B => some 0x6B
  | .lit6C => some 0x6C
  | .lit6D => some 0x6D
  | .lit6E => some 0x6E
  | .lit6F => some 0x6F
  | .lit70 => some 0x70
  | .lit71 => some 0x71
  | .lit72 => some 0x72
  | .lit73 => some 0x73
  | .lit74 => some 0x74
  | .lit75 => some 0x75
  | .lit76 => some 0x76
  | .lit77 => some 0x77
  | .lit78 => some 0x78
  | .lit79 => some 0x79
  | .lit7A => some 0x7A
  | .lit7B => some 0x7B
  | .lit7C => some 0x7C
  | .lit7D => some 0x7D
  | .lit7E => some 0x7E
  | .lit7F => some 0x7F
  | .lit80 => some 0x80
  | .lit81 => some 0x81
  | .lit82 => some 0x82
  | .lit83 => some 0x83
  | .lit84 => some 0x84
  | .lit85 => some 0x85
  | .lit86 => some 0x86
  | .lit87 => some 0x87
  | .lit88 => some 0x88
  | .lit89 => some 0x89
  | .lit8A => some 0x8A
  | .lit8B => some 0x8B
  | .lit8C => some 0x8C
  | .lit8D => some 0x8D
  | .lit8E => some 0x8E
  | .lit8F => some 0x8F
  | .lit90 => some 0x90
  | .lit91 => some 0x91
  | .lit92 => some 0x92
  | .lit93 => some 0x93
  | .lit94 => some 0x94
  | .lit95 => some 0x95
  | .lit96 => some 0x96
  | .lit97 => some 0x97
  | .lit98 => some 0x98
  | .lit99 => some 0x99
  | .lit9A => some 0x9A
  | .lit9B => some 0x9B
  | .lit9C => some 0x9C
  | .lit9D => some 0x9D
  | .lit9E => some 0x9E
  | .lit9F => some 0x9F
  | .litA0 => some 0xA0
  | .litA1 => some 0xA1
  | .litA2 => some 0xA2
  | .litA3 => some 0xA3
  | .litA4 => some 0xA4
  | .litA5 => some 0xA5
  | .litA6 => some 0xA6
  | .litA7 => some 0xA7
  | .litA8 => some 0xA8
  | .litA9 => some 0xA9
  | .litAA => some 0xAA
  | .litAB => some 0xAB
  | .litAC => some 0xAC
  | .litAD => some 0xAD
  | .litAE => some 0xAE
  | .litAF => some 0xAF
  | .litB0 => some 0xB0
  | .litB1 => some 0xB1
  | .litB2 => some 0xB2
  | .litB3 => some 0xB3
  | .litB4 => some 0xB4
  | .litB5 => some 0xB5
  | .litB6 => some 0xB6
  | .litB7 => some 0xB7
  | .litB8 => some 0xB8
  | .litB9 => some 0xB9
  | .litBA => some 0xBA
  | .litBB => some 0xBB
  | .litBC => some 0xBC
  | .litBD => some 0xBD
  | .litBE => some 0xBE
  | .litBF => some 0xBF
  | .litC0 => some 0xC0
  | .litC1 => some 0xC1
  | .litC2 => some 0xC2
  | .litC3 => some 0xC3
  | .litC4 => some 0xC4
  | .litC5 => some 0xC5
  | .litC6 => some 0xC6
  | .litC7 => some 0xC7
  | .litC8 => some 0xC8
  | .litC9 => some 0xC9
  | .litCA => some 0xCA
  | .litCB => some 0xCB
  | .litCC => some 0xCC
  | .litCD => some 0xCD
  | .litCE => some 0xCE
  | .litCF => some 0xCF
  | .litD0 => some 0xD0
  | .litD1 => some 0xD1
  | .litD2 => some 0xD2
  | .litD3 => some 0xD3
  | .litD4 => some 0xD4
  | .litD5 => some 0xD5
  | .litD6 => some 0xD6
  | .litD7 => some 0xD7
  | .litD8 => some 0xD8
  | .litD9 => some 0xD9
  | .litDA => some 0xDA
  | .litDB => some 0xDB
  | .litDC => some 0xDC
  | .litDD => some 0xDD
  | .litDE => some 0xDE
  | .litDF => some 0xDF
  | .litE0 => some 0xE0
  | .litE1 => some 0xE1
  | .litE2 => some 0xE2
  | .litE3 => some 0xE3
  | .litE4 => some 0xE4
  | .litE5 => some 0xE5
  | .litE6 => some 0xE6
  | .litE7 => some 0xE7
  | .litE8 => some 0xE8
  | .litE9 => some 0xE9
  | .litEA => some 0xEA
  | .litEB => some 0xEB
  | .litEC => some 0xEC
  | .litED => some 0xED
  | .litEE => some 0xEE
  | .litEF => some 0xEF
  | .litF0 => some 0xF0
  | .litF1 => some 0xF1
  | .litF2 => some 0xF2
  | .litF3 => some 0xF3
  | .litF4 => some 0xF4
  | .litF5 => some 0xF5
  | .litF6 => some 0xF6
  | .litF7 => some 0xF7
  | .litF8 => some 0xF8
  | .litF9 => some 0xF9
  | .litFA => some 0xFA
  | .litFB => some 0xFB
  | .litFC => some 0xFC
  | .litFD => some 0xFD
  | .litFE => some 0xFE
  | .litFF => some 0xFF
  | _ => none

/-- The length index and the extra-bits value of a LEN row of the fixed code (R70). -/
def Instr.fixedLength : Instr → Option (Nat × Nat)
  | .len257 => some (0, 0)
  | .len258 => some (1, 0)
  | .len259 => some (2, 0)
  | .len260 => some (3, 0)
  | .len261 => some (4, 0)
  | .len262 => some (5, 0)
  | .len263 => some (6, 0)
  | .len264 => some (7, 0)
  | .len265 e => some (8, e.toNat)
  | .len266 e => some (9, e.toNat)
  | .len267 e => some (10, e.toNat)
  | .len268 e => some (11, e.toNat)
  | .len269 e => some (12, e.toNat)
  | .len270 e => some (13, e.toNat)
  | .len271 e => some (14, e.toNat)
  | .len272 e => some (15, e.toNat)
  | .len273 e => some (16, e.toNat)
  | .len274 e => some (17, e.toNat)
  | .len275 e => some (18, e.toNat)
  | .len276 e => some (19, e.toNat)
  | .len277 e => some (20, e.toNat)
  | .len278 e => some (21, e.toNat)
  | .len279 e => some (22, e.toNat)
  | .len280 e => some (23, e.toNat)
  | .len281 e => some (24, e.toNat)
  | .len282 e => some (25, e.toNat)
  | .len283 e => some (26, e.toNat)
  | .len284 e => some (27, e.toNat)
  | .len285 => some (28, 0)
  | .len286 => some (29, 0)
  | .len287 => some (30, 0)
  | _ => none

/-- The distance symbol and the extra-bits value of a DIST row of the fixed code (R71). -/
def Instr.fixedDistance : Instr → Option (Nat × Nat)
  | .dist0 => some (0, 0)
  | .dist1 => some (1, 0)
  | .dist2 => some (2, 0)
  | .dist3 => some (3, 0)
  | .dist4 e => some (4, e.toNat)
  | .dist5 e => some (5, e.toNat)
  | .dist6 e => some (6, e.toNat)
  | .dist7 e => some (7, e.toNat)
  | .dist8 e => some (8, e.toNat)
  | .dist9 e => some (9, e.toNat)
  | .dist10 e => some (10, e.toNat)
  | .dist11 e => some (11, e.toNat)
  | .dist12 e => some (12, e.toNat)
  | .dist13 e => some (13, e.toNat)
  | .dist14 e => some (14, e.toNat)
  | .dist15 e => some (15, e.toNat)
  | .dist16 e => some (16, e.toNat)
  | .dist17 e => some (17, e.toNat)
  | .dist18 e => some (18, e.toNat)
  | .dist19 e => some (19, e.toNat)
  | .dist20 e => some (20, e.toNat)
  | .dist21 e => some (21, e.toNat)
  | .dist22 e => some (22, e.toNat)
  | .dist23 e => some (23, e.toNat)
  | .dist24 e => some (24, e.toNat)
  | .dist25 e => some (25, e.toNat)
  | .dist26 e => some (26, e.toNat)
  | .dist27 e => some (27, e.toNat)
  | .dist28 e => some (28, e.toNat)
  | .dist29 e => some (29, e.toNat)
  | _ => none

/-- The symbol and the extra-bits value of a CL row (R68). -/
def Instr.clSymbol : Instr → Option (Nat × Nat)
  | .cl0 => some (0, 0)
  | .cl1 => some (1, 0)
  | .cl2 => some (2, 0)
  | .cl3 => some (3, 0)
  | .cl4 => some (4, 0)
  | .cl5 => some (5, 0)
  | .cl6 => some (6, 0)
  | .cl7 => some (7, 0)
  | .cl8 => some (8, 0)
  | .cl9 => some (9, 0)
  | .cl10 => some (10, 0)
  | .cl11 => some (11, 0)
  | .cl12 => some (12, 0)
  | .cl13 => some (13, 0)
  | .cl14 => some (14, 0)
  | .cl15 => some (15, 0)
  | .cl16 e => some (16, e.toNat)
  | .cl17 e => some (17, e.toNat)
  | .cl18 e => some (18, e.toNat)
  | _ => none

/-- The words of an instruction. -/
inductive Encoded where
  /-- n stream bits, bit 0 of w the first (R62). -/
  | bits (n w : Nat)
  /-- Whole bytes, first byte first. -/
  | bytes (bs : List Byte)
  /-- A symbol of a dynamic table, followed by n extra bits of value e (R62, `table:<T>`). -/
  | coded (sym n e : Nat)
  /-- A 32-bit access at an offset of the register window (R79). -/
  | reg (off : Nat) (wdata : Option Word)
  /-- An access of the IN window. -/
  | inWindow (a : MemAccess)
  /-- An access of the OUT window. -/
  | outWindow (a : MemAccess)
  /-- No words: an engine step that reads no stream bits, or the reset input. -/
  | internal
deriving DecidableEq, Repr

/-- A Huffman code of length L, most significant bit first, and then n extra bits of value e, least significant first (R60, R61). -/
def encodeCode (L code n e : Nat) : Encoded := .bits (L + n) (revBits L code + e * 2 ^ L)

/-- The words of every instruction but the LIT, LEN and DIST rows of the fixed code and the CL rows. -/
def encodeOther : Instr → Encoded
  | .zhdr cmf flg => .bytes [cmf, flg]
  | .blockStored f => .bits 3 (f.toNat + 0 * 2)
  | .blockFixed f => .bits 3 (f.toNat + 1 * 2)
  | .blockDynamic f => .bits 3 (f.toNat + 2 * 2)
  | .blockReserved f => .bits 3 (f.toNat + 3 * 2)
  | .lenNlen l n => .bytes [l.setWidth 8, (l >>> 8).setWidth 8, n.setWidth 8, (n >>> 8).setWidth 8]
  | .data b => .bytes [b]
  | .dyn a b c => .bits 14 (a.toNat + b.toNat * 2 ^ 5 + c.toNat * 2 ^ 10)
  | .cll l => .bits 3 l.toNat
  | .eob => encodeCode (fixedLitLenCode 256).1 (fixedLitLenCode 256).2 0 0
  | .distInvalid11110 => encodeCode 5 0b11110 0 0
  | .distInvalid11111 => encodeCode 5 0b11111 0 0
  | .litDyn v => .coded v.toNat 0 0
  | .eobDyn => .coded 256 0 0
  | .lenDyn idx e => .coded (257 + idx.toNat) (lengthExtraBits idx.toNat) e.toNat
  | .distDyn d e => .coded d.toNat (distanceExtraBits d.toNat) e.toNat
  | .distInvalid d => .coded d.toNat 0 0
  | .trailer w => .bytes [(w >>> 24).setWidth 8, (w >>> 16).setWidth 8, (w >>> 8).setWidth 8, w.setWidth 8]
  | .start v => .reg 0x00 (some v)
  | .abort v => .reg 0x00 (some v)
  | .config v => .reg 0x00 (some v)
  | .clear v => .reg 0x04 (some v)
  | .setIndex v => .reg 0x08 (some v)
  | .setInLen v => .reg 0x0C (some v)
  | .setBufSize v => .reg 0x10 (some v)
  | .writeIgnored off v => .reg off.toNat (some v)
  | .readReg off => .reg off.toNat none
  | .inAccess a => .inWindow a
  | .outAccess a => .outWindow a
  | _ => .internal

/-- The encoder. -/
def encode (i : Instr) : Encoded :=
  match i.fixedLiteral with
  | some v => encodeCode (fixedLitLenCode v.toNat).1 (fixedLitLenCode v.toNat).2 0 0
  | none =>
  match i.fixedLength with
  | some p => encodeCode (fixedLitLenCode (257 + p.1)).1 (fixedLitLenCode (257 + p.1)).2 (lengthExtraBits p.1) p.2
  | none =>
  match i.fixedDistance with
  | some p => encodeCode 5 p.1 (distanceExtraBits p.1) p.2
  | none =>
  match i.clSymbol with
  | some p => .coded p.1 (clExtraBits p.1) p.2
  | none => encodeOther i

/-- The stream bits of a table-coded element, given the length L of its symbol's code in the table and the code's bits as they arrive
(first bit in bit 0). -/
def Encoded.inTable (L rcode : Nat) : Encoded → Encoded
  | .coded _ n e => .bits (L + n) (rcode + e * 2 ^ L)
  | x => x

/-- Decode stream words at a place of the grammar: bits stand in the accumulator with no input after them, bytes stand in IN from
address 0. Words that are no stream words are rejected. -/
def decodeStream (c : Ctx) : Encoded → Option Decoded
  | .bits n w => some (decode c (fun _ => none) 0 { ip := 0, cnt := n, buf := w })
  | .bytes bs => some (decode c (fun a => bs[a]?) bs.length { ip := 0, cnt := 0, buf := 0 })
  | _ => none

/-- The bus access of an encoded host command under the map p (20_memory.md R49). -/
def Encoded.onBus (p : Params) : Encoded → Option BusAccess
  | .reg off wdata => some { addr := p.regBase + off, bytes := 4, wdata := wdata }
  | .inWindow a => some { addr := p.inBase + a.offset, bytes := a.width.bytes, wdata := a.wdata }
  | .outWindow a => some { addr := p.outBase + a.offset, bytes := a.width.bytes, wdata := a.wdata }
  | _ => none

/-- The table T gives symbol sym the code of length L whose bits, as they arrive, are rcode: every window that begins with the code
selects the symbol's slot word (41_huffman_builder.md R103). -/
def Machine.Table.codes (t : Table) (sym L rcode : Nat) : Prop :=
  1 ≤ L ∧ L ≤ t.max.toNat ∧ sym < 2 ^ 16 ∧ rcode < 2 ^ L ∧
  ∀ j, j < 2 ^ t.max.toNat → j % 2 ^ L = rcode → t.slot j = slotWord L sym

/-! ## The opcode table's words

The table's stream rows overlap: the same bits are one row in one place of the grammar and another row in another. A word with its
number of bytes is read in the first place below whose decoder uses exactly that many bytes (assumption 15). -/

/-- The places tried, in order. -/
def tableCtxs : List Ctx := [.litLen true flit, .block, .dist true fdist, .zhdr, .stored]

/-- Byte a of a table word; every byte above the word is 0. -/
def tableByte (w a : Nat) : Byte := BitVec.ofNat 8 (w >>> (8 * a))

/-- The element decoded from a table word in a place of the grammar. -/
def decodeTableIn (c : Ctx) (w : Nat) : Option (Instr × Nat) :=
  match decode c (fun a => some (tableByte w a)) 16 { ip := 0, cnt := 0, buf := 0 } with
  | .instr i r => some (i, 8 * r.ip - r.cnt)
  | _ => none

/-- The place accepts a word whose element consumed n bits: they fill exactly nbits, in whole bytes. A block header, which any three
bits are, is taken only for a word of three bits; a fixed distance code that selects an empty slot is five bits, though it consumes
none; a stored header is taken only where NLEN is the complement of LEN. -/
def acceptsTable (nbits w n : Nat) : Ctx → Bool
  | .block => (n + 7) / 8 * 8 == nbits && w < 8
  | .dist _ _ => (Nat.max n 5 + 7) / 8 * 8 == nbits
  | .stored => (n + 7) / 8 * 8 == nbits && w / 0x10000 % 0x10000 + w % 0x10000 == 0xFFFF
  | _ => (n + 7) / 8 * 8 == nbits

/-- The place of the grammar a table word is read in, and its instruction. -/
def tablePlace (nbits w : Nat) : List Ctx → Option (Ctx × Instr)
  | [] => none
  | c :: cs =>
    match decodeTableIn c w with
    | some (i, n) => if acceptsTable nbits w n c then some (c, i) else tablePlace nbits w cs
    | none => tablePlace nbits w cs

/-- The instruction the decoder reads from a table word of nbits bits. A 32-bit word that is no stored header is a CTRL write (R79). -/
def decodeTableWord (nbits w : Nat) : Option Instr :=
  match tablePlace nbits w tableCtxs with
  | some (_, i) => some i
  | none => if nbits = 32 then some (decodeRegWrite 0x00 (BitVec.ofNat 32 w)) else none

end Sys2Proof
end

