-- ==== Sys2Proof/Machine/Fetch.lean ====
section
/-! DEFINITION. Fetching: which element the engine reads next, how the parts of one atomic step follow each other, and how the moves
of the two agents interleave (00_scope.md R7, R9; 10_state.md R20; 20_memory.md R50). -/

namespace Sys2Proof.Machine

/-- What the engine fetches: an instruction, with the state after its stream bits; or it stops before one. -/
inductive Fetched where
  | run (i : Instr) (s : State)
  | stop (x : Res)
deriving DecidableEq, Repr

/-- A block body is coded by the fixed tables unless the header said dynamic (R112); the opcode table has rows for each. -/
def State.fixedBody (s : State) : Bool := s.btype != 2

/-- The place of the stream's grammar the engine stands at (10_state.md R20); none where it reads no stream bits. -/
def State.place (s : State) : Option Ctx :=
  match s.pend with
  | .startStep => none
  | .storedData _ => some .data
  | .clLengths _ => some .cll
  | .distance _ => some (.dist s.fixedBody s.distt)
  | .trailer => some .trailer
  | .none =>
    match s.fsm with
    | .zhdr => some .zhdr
    | .bhdr => some .block
    | .stored => some .stored
    | .dynhdr => some .dyn
    | .clens => some (.cl s.clt)
    | .body => some (.litLen s.fixedBody s.litt)
    | .dynbuild | .finish | .idle | .done | .error => none

/-- The engine's step that reads no stream bits, where it has one. -/
def State.internalStep (s : State) : Option Instr :=
  match s.pend, s.fsm with
  | .startStep, _ => some .startStep
  | .none, .dynbuild => some .dynbuild
  | .none, .finish => some .finish
  | _, _ => none

/-- The registers a header element had written before a read of it raised (00_scope.md R7; R112, R114): BFINAL, or HLIT and HDIST. -/
def State.keepRead (s : State) (c : Ctx) (got : List Nat) : State :=
  match c, got with
  | .block, [f] => { s with bfinal := BitVec.ofNat 1 f }
  | .dyn, [a] => { s with hlit := BitVec.ofNat 9 (a + 257) }
  | .dyn, [a, b] => { s with hlit := BitVec.ofNat 9 (a + 257), hdist := BitVec.ofNat 6 (b + 1) }
  | _, _ => s

/-- Read the element at a place of the grammar. -/
def State.fetchAt (s : State) (c : Ctx) : Fetched :=
  match decode c s.readIn s.inLen.toNat s.reader with
  | .instr i r => .run i (s.withReader r)
  | .raise e r got => .stop (.raise e ((s.withReader r).keepRead c got))
  | .noByte a => .stop (.fault (.noInAddress a))

/-- The engine's next instruction; in IDLE, DONE and ERROR it has none (42_block_decoder.md R121). -/
def State.fetch (s : State) : Fetched :=
  match s.place with
  | some c => s.fetchAt c
  | none =>
    match s.internalStep with
    | some i => .run i s
    | none => .stop (.fault .quiescent)

/-- One part of a step: fetch an instruction and run it. -/
def runPart (run : Instr → State → Host.Outcome State Fault Refusal) (s : State) : Host.Outcome State Fault Refusal :=
  match s.fetch with
  | .run i s => run i s
  | .stop x => x.finish

/-- The parts of a step after the first, until none is left (assumption 4). -/
def runParts (run : Instr → State → Host.Outcome State Fault Refusal) : Nat → State → Host.Outcome State Fault Refusal
  | 0, s => .next s
  | fuel + 1, s =>
    if s.pend = .none then .next s
    else
      match runPart run s with
      | .next s => runParts run fuel s
      | .fault f => .fault f
      | .refused r => .refused r

/-- More parts than any step has: a stored block has one header and up to 65535 data bytes. -/
def maxParts : Nat := 65536

/-- Go on with the parts an instruction left. -/
def thenParts (run : Instr → State → Host.Outcome State Fault Refusal) :
    Host.Outcome State Fault Refusal → Host.Outcome State Fault Refusal
  | .next s => runParts run maxParts s
  | .fault f => .fault f
  | .refused r => .refused r

/-- An engine step or a host write has happened: reads of busy result registers may return other values (assumption 7), and while
BUSY = 1 so may reads of the bytes of OUT at OP and above (20_memory.md R42, R48; assumption 18). -/
def State.advance (s : State) : State :=
  { s with epoch := s.epoch + 1, outDraw := if s.busy then s.outDraw + 1 else s.outDraw }

/-- One engine step: one element with all its parts (00_scope.md R9). -/
def engineStep (run : Instr → State → Host.Outcome State Fault Refusal) (s : State) : Host.Outcome State Fault Refusal :=
  thenParts run (runPart run s.advance)

/-- One host access (46_host_commands.md). An access that no window takes, or that 20_memory.md R47 refuses, sets the refusal mark. -/
def hostStep (run : Instr → State → Host.Outcome State Fault Refusal) (b : BusAccess) (s : State) :
    Host.Outcome State Fault Refusal :=
  match decodeBus s.par b with
  | some i => thenParts run (run i (if b.wdata.isSome then s.advance else s))
  | none => .next s.markRefused

/-- The moves of the interleaving still to come. -/
def State.setScript (s : State) (ms : List Move) : State := { s with script := ms }

/-- One step of the block: the next move of the script; with the script empty, the engine's step. The script naming the engine while
S is IDLE, DONE or ERROR names no move, and the turn passes (42_block_decoder.md R121; assumption 2). -/
def turn (run : Instr → State → Host.Outcome State Fault Refusal) (s : State) : Host.Outcome State Fault Refusal :=
  match s.script with
  | [] => engineStep run s
  | .engine :: ms =>
    if s.busy || s.pend != .none then engineStep run (s.setScript ms) else .next (s.setScript ms)
  | .bus b :: ms => hostStep run b (s.setScript ms)
  | .reset :: ms => run .rst (s.setScript ms)

/-! ## Placing a word -/

/-- Write bytes into IN from an address on. -/
def State.putIn (s : State) : Nat → List Byte → State
  | _, [] => s
  | a, b :: bs => State.putIn { s with inMem := s.inMem.put a b } (a + 1) bs

/-- The 16 bytes of a table word: as many as the longest element has bits, every bit above the word 0. -/
def tableBytes (w : Nat) : List Byte := (List.range 16).map (tableByte w)

/-- The state with the element's bits at IP and IN_LEN past them, the accumulator empty, the engine to move. -/
def State.placeBits (s : State) (w : Nat) : State :=
  { s.putIn s.ip.toNat (tableBytes w) with
    inLen := if s.inLen.toNat < s.ip.toNat + 16 then s.ip + 16 else s.inLen
    bitCnt := 0, bitBuf := 0, pend := .none
    script := .engine :: s.script }

/-- The engine stands where it reads the element of a place. -/
def State.standAt (s : State) : Ctx → State
  | .zhdr => { s with fsm := .zhdr }
  | .block => { s with fsm := .bhdr }
  | .stored => { s with fsm := .stored }
  | .litLen _ _ => { s with fsm := .body, btype := 1, litt := flit, distt := fdist }
  | .dist _ _ => { s with fsm := .body, btype := 1, litt := flit, distt := fdist, pend := .distance 3 }
  | _ => s

/-- The state whose next step runs a table word's instruction (assumptions 3, 15). -/
def State.placeWord (s : State) (nbits w : Nat) : State :=
  match tablePlace nbits w tableCtxs with
  | some (c, _) => (s.placeBits w).standAt c
  | none =>
    s.setScript (.bus { addr := s.par.regBase, bytes := 4, wdata := some (BitVec.ofNat 32 w) } :: s.script)

end Sys2Proof.Machine
end

