-- ==== Sys2Proof/Machine/Step.lean ====
section
/-! DEFINITION. One step of the block, and the placing of a word where the next step fetches. -/

namespace Sys2Proof.Machine

/-- One step: the next move of the interleaving of the host and the engine (00_scope.md R9, 20_memory.md R50). -/
def step (s : State) : Host.Outcome State Fault Refusal := turn exec s

/-- The state whose next step fetches and runs the instruction of an opcode-table word (assumptions 3, 15). -/
def State.withFetchWord (s : State) (nbits w : Nat) : State := s.placeWord nbits w

end Sys2Proof.Machine
end

