-- ==== Sys2Proof/Safety.lean ====
section
/-! DEFINITION. What counts as a safe state, in the terms the claims use: the invariants the spec states at a step boundary (10_state.md
R12, R21 to R24, R33; 60_exceptions.md R180; 42_block_decoder.md R111, R115), and the words in which the claims speak of the stream, of the
instructions of one shape, and of canonical codes. -/

namespace Sys2Proof.Machine

/-! ## The stream -/

/-- The stream bit at a bit position, over the bytes of the input (20_memory.md R44). -/
def streamBit (byte : Nat → Byte) (p : Nat) : Bool := (byte (p / 8)).getLsbD (p % 8)

/-- The value of the n stream bits from a bit position on, the first the least significant (30_encoding.md R60). -/
def streamField (byte : Nat → Byte) (p : Nat) : Nat → Nat
  | 0 => 0
  | n + 1 => (streamBit byte p).toNat + 2 * streamField byte (p + 1) n

/-- BP = 8*IP - BITCNT (10_state.md R21). -/
def Reader.bitPos (r : Reader) : Nat := 8 * r.ip - r.cnt

/-- 10_state.md R22: the buffered bits are the stream bits from BP on, every higher bit is 0, and IP has passed them. -/
abbrev Reader.Holds (byte : Nat → Byte) (r : Reader) : Prop :=
  r.cnt ≤ 8 * r.ip ∧ r.buf < 2 ^ r.cnt ∧ ∀ i, i < r.cnt → r.buf.testBit i = streamBit byte (r.bitPos + i)

/-- The bit position past the last bit the engine can read: the end of the input, or past it the end of what is buffered. -/
def State.streamEnd (s : State) : Nat := 8 * Nat.max s.inLen.toNat s.ip.toNat

/-! ## The invariant of a step boundary -/

/-- The parameters are ones R5 allows, and IN_LEN holds a legal value (10_state.md R14). -/
abbrev State.ParamsOk (s : State) : Prop := s.par.wf ∧ s.inLen.toNat ≤ s.par.inMemSize

/-- Both memories are in canonical form. -/
abbrev State.MemoryOk (s : State) : Prop := s.inMem.wf ∧ s.outMem.wf

/-- BITCNT <= 22 and BITBUF < 2^BITCNT (10_state.md R33); at the zlib header BITCNT is 0, because START cleared it
(42_block_decoder.md R111); and while a decode runs IP <= max(IN_LEN, INDEX) and the buffered bits are the stream bits from BP on
(R22). -/
abbrev State.ReaderOk (s : State) : Prop :=
  s.bitCnt.toNat ≤ 22 ∧ s.bitBuf.toNat < 2 ^ s.bitCnt.toNat ∧ (s.fsm = .zhdr → s.bitCnt = 0) ∧
  (s.busy = true → s.ip.toNat ≤ Nat.max s.inLen.toNat s.index.toNat ∧ s.reader.Holds s.inByte)

/-- OP <= CAP <= OUT_MEM_SIZE (10_state.md R33). -/
abbrev State.OutputOk (s : State) : Prop := s.op.toNat ≤ s.cap.toNat ∧ s.cap.toNat ≤ s.par.outMemSize

/-- While a decode runs the bytes of OUT below OP are written, and those at OP and above are unspecified (20_memory.md R42): the
listed addresses are 0 .. OP-1 (assumption 18). -/
abbrev State.OutputListed (s : State) : Prop := s.busy = true → s.outMem.map Prod.fst = List.range s.op.toNat

/-- The counts of a dynamic header are in range, and a CLENS step starts with CLIDX < HLIT + HDIST (10_state.md R26, R33;
42_block_decoder.md R115). -/
abbrev State.HeaderOk (s : State) : Prop :=
  s.hlit.toNat ≤ 288 ∧ s.hdist.toNat ≤ 32 ∧
  (s.fsm = .clens → s.clIdx.toNat < s.hlit.toNat + s.hdist.toNat)

/-- DONE is set only in S = DONE and ERR only in S = ERROR, so they are never both 1 (10_state.md R12), and ERRCODE is 0 or a code
that can be raised (60_exceptions.md R180). -/
abbrev State.FlagsOk (s : State) : Prop :=
  (s.done = true → s.fsm = .done) ∧ (s.err = true → s.fsm = .error) ∧ s.errCode.toNat ≤ 0x0E ∧ s.errCode ≠ 0x01

/-- The invariant of a step boundary. -/
abbrev State.Inv (s : State) : Prop :=
  s.ParamsOk ∧ s.MemoryOk ∧ s.ReaderOk ∧ s.OutputOk ∧ s.OutputListed ∧ s.HeaderOk ∧ s.FlagsOk ∧ s.pend = .none

end Sys2Proof.Machine

namespace Sys2Proof

open Sys2Proof.Machine

/-! ## Instructions of one shape -/

/-- The byte a literal writes: LIT 0x00 .. LIT 0xFF of the fixed code, and LIT of a dynamic table (30_encoding.md R69). -/
def Instr.literalOf : Instr → Option (BitVec 8)
  | .litDyn v => some v
  | i => i.fixedLiteral

/-- The length a length symbol gives: LEN 257 .. LEN 287 of the fixed code, and LEN of a dynamic table (30_encoding.md R70). -/
def Instr.lengthOf : Instr → Option Nat
  | .lenDyn idx e => some (lengthBase idx.toNat + e.toNat)
  | i => i.fixedLength.map fun p => lengthBase p.1 + p.2

/-- The distance a distance symbol gives: DIST 0 .. DIST 29 of the fixed code, and DIST of a dynamic table (30_encoding.md R71). -/
def Instr.distanceOf : Instr → Option Nat
  | .distDyn d e => some (distanceBase d.toNat + e.toNat)
  | i => i.fixedDistance.map fun p => distanceBase p.1 + p.2

/-- The place of the grammar where the words of an instruction stand, for the rows whose bits no dynamic table gives. The two empty
slots of the fixed distance code consume nothing and are left out. -/
def Instr.fixedPlace (i : Instr) : Option Ctx :=
  match i with
  | .zhdr _ _ => some .zhdr
  | .blockStored _ | .blockFixed _ | .blockDynamic _ | .blockReserved _ => some .block
  | .lenNlen _ _ => some .stored
  | .data _ => some .data
  | .dyn _ _ _ => some .dyn
  | .cll _ => some .cll
  | .trailer _ => some .trailer
  | .eob => some (.litLen true flit)
  | i =>
    if i.fixedLiteral.isSome || i.fixedLength.isSome then some (.litLen true flit)
    else if i.fixedDistance.isSome then some (.dist true fdist)
    else none

/-- The place of the grammar where the words of an instruction stand whose symbol is coded by a table t (30_encoding.md R62). -/
def Instr.codedPlace (t : Table) (i : Instr) : Option Ctx :=
  match i with
  | .litDyn _ | .eobDyn | .lenDyn _ _ => some (.litLen false t)
  | .distDyn _ _ | .distInvalid _ => some (.dist false t)
  | i => if i.clSymbol.isSome then some (.cl t) else none

/-! ## Canonical codes -/

/-- The first code of length l in the canonical assignment (41_huffman_builder.md R102). -/
def firstCode (lengths : List Nat) : Nat → Nat
  | 0 => 0
  | l + 1 => 2 * (firstCode lengths l + if l = 0 then 0 else lengths.count l)

/-- CODE[i] of the canonical assignment (41_huffman_builder.md R102): the first code of the symbol's length, and one more for each
earlier symbol of that length. -/
def canonicalCode (lengths : List Nat) (i : Nat) : Nat :=
  firstCode lengths (lengths.getD i 0) + (lengths.take i).count (lengths.getD i 0)

/-- The lengths are not oversubscribed: the sum of 2^-length over the non-zero lengths is at most 1 (41_huffman_builder.md R102),
scaled by 2^15. -/
def notOversubscribed (lengths : List Nat) : Prop :=
  (lengths.map fun l => if l = 0 then 0 else 2 ^ (15 - l)).sum ≤ 2 ^ 15

/-- One byte of an Adler-32 with both sums reduced at once (45_adler32.md R161). -/
def adlerByte (p : Nat × Nat) (b : Byte) : Nat × Nat :=
  ((p.1 + b.toNat) % adlerMod, (p.2 + (p.1 + b.toNat)) % adlerMod)

end Sys2Proof
end

