-- ==== Sys2Proof/Certificates/Slice0/Obligations.lean ====
section
/-! DEFINITION. The statements for the provers, in the order of the spec's files. Each docstring names the rule or the sections it
formalises. A statement about an engine step takes `s.script = []`: with no move of the host to come, the step is the engine's.
`s.advance` is s but for the two counters that pick free values, which are the model's own (assumptions 7 and 18). -/

open Sys2Proof Sys2Proof.Machine

/-! ## Reset and the step boundary -/

/-- 10_state.md R31: the values the spec gives right after reset, for every choice of the OPEN parameters, and that State.reset is the
state after reset under the parameters the model names (assumption 1). That CLLEN, LENS and the CLT slots hold 0 is the model's choice
(assumption 6) and is not stated. -/
def Obligations.ResetStateValues : Prop :=
  ∀ p : Params,
    (State.resetWith p).ctrlWord = 0x00000004 ∧ (State.resetWith p).statusWord = 0x00000000 ∧
    (State.resetWith p).index = 0 ∧ (State.resetWith p).inLen = 0 ∧ (State.resetWith p).bufSize = 32768 ∧
    (State.resetWith p).outLen = 0 ∧ (State.resetWith p).adler = 0 ∧ (State.resetWith p).trailer = 0 ∧
    (State.resetWith p).errIp = 0 ∧ (State.resetWith p).errOp = 0 ∧ (State.resetWith p).fsm = .idle ∧
    (State.resetWith p).ip = 0 ∧ (State.resetWith p).bitCnt = 0 ∧ (State.resetWith p).bitBuf = 0 ∧
    (State.resetWith p).op = 0 ∧ (State.resetWith p).cap = 0 ∧
    (State.resetWith p).bfinal = 0 ∧ (State.resetWith p).btype = 0 ∧ (State.resetWith p).hlit = 0 ∧
    (State.resetWith p).hdist = 0 ∧ (State.resetWith p).hclen = 0 ∧ (State.resetWith p).clIdx = 0 ∧ (State.resetWith p).prev = 0 ∧
    (State.resetWith p).clt.max = 0 ∧ (State.resetWith p).clt.min = 0 ∧
    (State.resetWith p).litt = flit ∧ (State.resetWith p).distt = fdist ∧ (State.resetWith p).irq = false ∧
    State.reset = State.resetWith Config.reference

/-- 70_reset_and_hazards.md R200, R201, R202: RST, from every state, a running decode among them, leaves the reset values and no record
of the decode, does not write IN, OUT, CLLEN, LENS or the CLT RAM, and the engine then has no step. The model's choices here: that it
keeps the parameters, and the slots of CLT as they are (assumption 24); that an engine without a step shows as the fault quiescent
(assumption 11); that the move stands at the head of `script` (assumption 2); that the unspecified bytes of OUT keep their draw
(assumption 18). -/
def Obligations.RstLeavesResetValues : Prop :=
  ∀ s : State, ∃ t : State, exec .rst s = .next t ∧
    t.ctrlWord = 0x00000004 ∧ t.statusWord = 0 ∧ t.index = 0 ∧ t.inLen = 0 ∧ t.bufSize = 32768 ∧
    t.outLen = 0 ∧ t.adler = 0 ∧ t.trailer = 0 ∧ t.errIp = 0 ∧ t.errOp = 0 ∧ t.cap = 0 ∧ t.bitPos = 0 ∧
    t.fsm = .idle ∧ t.done = false ∧ t.err = false ∧ t.errCode = 0 ∧
    t.ip = 0 ∧ t.bitCnt = 0 ∧ t.bitBuf = 0 ∧ t.op = 0 ∧ t.bfinal = 0 ∧ t.btype = 0 ∧ t.hlit = 0 ∧ t.hdist = 0 ∧
    t.hclen = 0 ∧ t.clIdx = 0 ∧ t.prev = 0 ∧ t.clt.max = 0 ∧ t.clt.min = 0 ∧ t.litt = flit ∧ t.distt = fdist ∧
    t.irq = false ∧ t.fetch = .stop (.fault .quiescent) ∧
    (∀ a, t.inByte a = s.inByte a) ∧ (∀ a, t.outByte a = s.outByte a) ∧
    t.clLen = s.clLen ∧ t.lens = s.lens ∧ t.clt.slots = s.clt.slots ∧ t.par = s.par ∧
    (∀ ms, s.script = .reset :: ms → ∃ u, step s = .next u ∧ u = { t with script := ms })

/-- 10_state.md R33 at the state after reset. -/
def Obligations.InvHoldsAtReset : Prop :=
  State.reset.Inv ∧ ∀ p : Params, p.wf → (State.resetWith p).Inv

/-- 10_state.md R12, R22, R33, 20_memory.md R41, R42, 42_block_decoder.md R111, 60_exceptions.md R180: every step of either agent keeps
the invariant of a step boundary. (That the bytes of OUT below OP, and no others, are listed while a decode runs is how the model holds
R42, assumption 18.) -/
def Obligations.InvKeptByEveryStep : Prop :=
  ∀ s t : State, s.Inv → step s = .next t → t.Inv

/-- 42_block_decoder.md R121 and 40_bitreader.md R95: a running engine always has its next step, which no missing address stops; a
stopped engine has none. -/
def Obligations.RunningEngineTakesAStep : Prop :=
  ∀ s : State, s.Inv → s.script = [] →
    (s.busy = true → ∃ t, step s = .next t) ∧ (s.busy = false → step s = .fault .quiescent)

/-- 42_block_decoder.md R123, 70_reset_and_hazards.md R215: every decode ends, in DONE or ERROR, within
`16 * (max(IN_LEN, INDEX) - INDEX) + 2` engine steps. -/
def Obligations.EveryDecodeEnds : Prop :=
  ∀ s : State, s.Inv → s.script = [] →
    ∃ (n : Nat) (t : State), n ≤ 16 * (Nat.max s.inLen.toNat s.index.toNat - s.index.toNat) + 2 ∧
      core.run n s.startInit = .next t ∧ (t.fsm = .done ∨ t.fsm = .error)

/-- 42_block_decoder.md R123, 40_bitreader.md R95: every engine step but DYNBUILD and FINISH that raises no error consumes at least one
stream bit, and no step consumes a bit past the end of the input. -/
def Obligations.ElementsConsumeStreamBits : Prop :=
  ∀ s t : State, s.Inv → s.script = [] → s.busy = true → step s = .next t →
    s.reader.bitPos ≤ t.reader.bitPos ∧ t.reader.bitPos ≤ s.streamEnd ∧
    (s.fsm ≠ .dynbuild → s.fsm ≠ .finish → t.fsm ≠ .error → s.reader.bitPos < t.reader.bitPos)

/-- 42_block_decoder.md R122: the transitions of S by an engine step. -/
def Obligations.EngineTransitionsOfS : Prop :=
  ∀ s t : State, s.Inv → s.script = [] → s.busy = true → step s = .next t → t.fsm ≠ .error →
    match s.fsm with
    | .zhdr => t.fsm = .bhdr
    | .bhdr => (t.btype = 0 ∧ t.fsm = .stored) ∨ (t.btype = 1 ∧ t.fsm = .body ∧ t.litt = flit ∧ t.distt = fdist) ∨
        (t.btype = 2 ∧ t.fsm = .dynhdr)
    | .stored => t.fsm = if s.bfinal = 1 then .finish else .bhdr
    | .dynhdr => t.fsm = .clens
    | .clens => t.fsm = if t.clIdx.toNat = s.hlit.toNat + s.hdist.toNat then .dynbuild else .clens
    | .dynbuild => t.fsm = .body
    | .body => t.fsm = .body ∨ t.fsm = if s.bfinal = 1 then .finish else .bhdr
    | .finish => t.fsm = .done
    | .idle | .done | .error => False

/-- 60_exceptions.md R183: an engine step that raises leaves OUT, OP and CAP as they were, and records IP and OP. (The bytes of OUT at OP
and above are unspecified and are drawn anew, assumption 18.) -/
def Obligations.ErrorsArePrecise : Prop :=
  ∀ s t : State, s.Inv → s.script = [] → s.busy = true → step s = .next t → t.fsm = .error →
    t.outMem = s.outMem ∧ (∀ a, a < s.op.toNat → t.outByte a = s.outByte a) ∧ t.op = s.op ∧ t.cap = s.cap ∧
    t.errIp = t.ip ∧ t.errOp = s.op ∧ t.outLen = 0 ∧ t.err = true ∧ t.done = false ∧ t.errCode ≠ 0 ∧ t.errCode ≠ 0x0E

/-- 20_memory.md R41 and the constancy of the options during a decode (46_host_commands.md R172, R174): an engine step writes no byte
of IN, no option and no parameter. -/
def Obligations.EngineKeepsInputAndOptions : Prop :=
  ∀ s t : State, s.Inv → s.script = [] → s.busy = true → step s = .next t →
    t.inMem = s.inMem ∧ t.par = s.par ∧ t.mode = s.mode ∧ t.verify = s.verify ∧ t.ie = s.ie ∧ t.index = s.index ∧
    t.inLen = s.inLen ∧ t.bufSize = s.bufSize ∧ t.readData = s.readData ∧ t.refusedMark = s.refusedMark ∧ t.script = []

/-- 20_memory.md R42, 10_state.md R23: OP only grows during a decode, no engine step changes a byte of OUT below OP, and the bytes at the
new OP and above, which are unspecified, are a fresh draw of free values: whatever they are, the statement holds (assumption 18). -/
def Obligations.OutputBelowCursorIsFinal : Prop :=
  ∀ s t : State, s.Inv → s.script = [] → s.busy = true → step s = .next t →
    s.op.toNat ≤ t.op.toNat ∧ (∀ a, a < s.op.toNat → t.outByte a = s.outByte a) ∧
    t.outDraw = s.outDraw + 1 ∧ ∀ a, t.op.toNat ≤ a → t.outByte a = Config.freeOut t.outDraw a

/-- 70_reset_and_hazards.md R205, 60_exceptions.md R183: the outcome of a decode depends on the input below IN_LEN, the options and the
parameters alone, not on what the memories, the result registers or an earlier decode left. -/
def Obligations.OutcomeDependsOnLaunchAlone : Prop :=
  ∀ s₁ s₂ : State, s₁.Inv → s₂.Inv → s₁.script = [] → s₂.script = [] → s₁.par = s₂.par → s₁.mode = s₂.mode →
    s₁.verify = s₂.verify → s₁.index = s₂.index → s₁.inLen = s₂.inLen → s₁.bufSize = s₂.bufSize →
    (∀ a, a < s₁.inLen.toNat → s₁.inByte a = s₂.inByte a) →
    ∀ (n : Nat) (t₁ : State), core.run n s₁.startInit = .next t₁ →
      ∃ t₂, core.run n s₂.startInit = .next t₂ ∧ t₁.fsm = t₂.fsm ∧ t₁.done = t₂.done ∧ t₁.err = t₂.err ∧
        t₁.errCode = t₂.errCode ∧ t₁.errIp = t₂.errIp ∧ t₁.errOp = t₂.errOp ∧ t₁.outLen = t₂.outLen ∧ t₁.adler = t₂.adler ∧
        t₁.trailer = t₂.trailer ∧ t₁.ip = t₂.ip ∧ t₁.bitPos = t₂.bitPos ∧ t₁.op = t₂.op ∧ t₁.cap = t₂.cap ∧
        ∀ a, a < t₁.op.toNat → t₁.outByte a = t₂.outByte a

/-! ## A step runs the decoded instruction -/

/-- 00_scope.md R9, 10_state.md R20: an engine step runs the instruction its bits decode to, on the state after those bits, and then
the element's parts; an element of one part is the whole step. The engine's steps that read no bits run DYNBUILD and FINISH
(42_block_decoder.md R119, R120). -/
def Obligations.StepRunsDecodedElement : Prop :=
  ∀ (s : State) (c : Ctx) (i : Instr) (r : Reader),
    s.place = some c → decode c s.readIn s.inLen.toNat s.reader = .instr i r →
    (s.script = [] → step s = thenParts exec (exec i (s.advance.withReader r))) ∧
    (∀ ms, s.script = .engine :: ms → step s = thenParts exec (exec i ((s.setScript ms).advance.withReader r))) ∧
    (∀ t, s.script = [] → exec i (s.advance.withReader r) = .next t → t.pend = .none → step s = .next t) ∧
    (∀ (u : State) (f : Fsm) (j : Instr), ((f = .dynbuild ∧ j = .dynbuild) ∨ (f = .finish ∧ j = .finish)) → u.pend = .none →
      u.script = [] → u.fsm = f → step u = thenParts exec (exec j u.advance))

/-- 00_scope.md R7: an error raised while an element's bits are read ends the step in error entry, with the reads done before it
standing. It is so in the first part of a step, in every later part, however many more the step could have, and so for a read error
in the part after the first, a distance after its length among them. (That an element's parts are run one by one is the model's
choice, assumption 4.) -/
def Obligations.StepTakesReadErrors : Prop :=
  ∀ (s : State) (c : Ctx) (e : ErrorCode) (r : Reader) (got : List Nat),
    s.place = some c → decode c s.readIn s.inLen.toNat s.reader = .raise e r got →
    (s.script = [] → step s = .next (((s.advance.withReader r).keepRead c got).enterError e)) ∧
    (s.pend ≠ .none → ∀ n, runParts exec (n + 1) s = .next (((s.withReader r).keepRead c got).enterError e)) ∧
    (s.pend ≠ .none → ∀ u : State, u.script = [] → runPart exec u.advance = .next s →
      step u = .next (((s.withReader r).keepRead c got).enterError e))

/-- 00_scope.md R9, 20_memory.md R50: a move of the host is a step of its own, which runs the instruction its access decodes to; RST is
another; an engine move names no step while the engine is stopped (assumption 2). -/
def Obligations.StepRunsHostMove : Prop :=
  ∀ (s : State) (ms : List Move),
    (∀ b i, s.script = .bus b :: ms → decodeBus s.par b = some i →
      step s = thenParts exec (exec i (if b.wdata.isSome then (s.setScript ms).advance else s.setScript ms))) ∧
    (s.script = .reset :: ms → step s = exec .rst (s.setScript ms)) ∧
    (s.script = .engine :: ms → s.busy = false → s.pend = .none → step s = .next (s.setScript ms))

/-- 20_memory.md R47, 70_reset_and_hazards.md R207: a host access that no window takes, of a wrong width or misaligned changes no state of
the block and sets the refusal mark. -/
def Obligations.RefusedAccessChangesNothing : Prop :=
  ∀ (s : State) (b : BusAccess) (ms : List Move), s.script = .bus b :: ms →
    (¬ (s.par.regBase ≤ b.addr ∧ b.addr < s.par.regBase + 0x100 ∧ b.bytes = 4 ∧ (b.addr - s.par.regBase) % 4 = 0) ∧
     ¬ (s.par.inBase ≤ b.addr ∧ b.addr + b.bytes ≤ s.par.inBase + s.par.inMemSize ∧ (b.bytes = 1 ∨ b.bytes = 2 ∨ b.bytes = 4) ∧
        (b.addr - s.par.inBase) % b.bytes = 0) ∧
     ¬ (s.par.outBase ≤ b.addr ∧ b.addr + b.bytes ≤ s.par.outBase + s.par.outMemSize ∧
        (b.bytes = 1 ∨ b.bytes = 2 ∨ b.bytes = 4) ∧ (b.addr - s.par.outBase) % b.bytes = 0)) →
    step s = .next { s with script := ms, refusedMark := true }

/-! ## Encodings -/

/-- A few words written out from 30_encoding.md R63 to R79 decode to the instructions they stand for. -/
def Obligations.WrittenWordsDecode : Prop :=
  decodeStream .zhdr (.bytes [0x78, 0x9C]) = some (.instr (.zhdr 0x78 0x9C) { ip := 2, cnt := 0, buf := 0 }) ∧
  decodeStream .block (.bits 3 0b011) = some (.instr (.blockFixed 1) { ip := 0, cnt := 0, buf := 0 }) ∧
  decodeStream (.litLen true flit) (.bits 8 0x89) = some (.instr .lit61 { ip := 0, cnt := 0, buf := 0 }) ∧
  decodeStream (.litLen true flit) (.bits 7 0) = some (.instr .eob { ip := 0, cnt := 0, buf := 0 }) ∧
  decodeStream (.litLen true flit) (.bits 7 0b1000000) = some (.instr .len257 { ip := 0, cnt := 0, buf := 0 }) ∧
  decodeStream (.dist true fdist) (.bits 5 0b10000) = some (.instr .dist1 { ip := 0, cnt := 0, buf := 0 }) ∧
  decodeStream (.dist true fdist) (.bits 5 0b01111) = some (.instr .distInvalid11110 { ip := 0, cnt := 5, buf := 15 }) ∧
  decodeStream (.dist true fdist) (.bits 5 0b11111) = some (.instr .distInvalid11111 { ip := 0, cnt := 5, buf := 31 }) ∧
  decodeStream .trailer (.bytes [0x00, 0x62, 0x00, 0x62]) = some (.instr (.trailer 0x00620062) { ip := 4, cnt := 0, buf := 0 }) ∧
  decodeRegWrite 0x00 0x0D = .start 0x0D ∧ decodeRegWrite 0x00 0x03 = .abort 0x03 ∧ decodeRegWrite 0x0C 9 = .setInLen 9

/-- 30_encoding.md R60 to R75: decoding the words of an instruction whose bits no dynamic table gives is that instruction, with every
operand at every value, and uses every word. -/
def Obligations.FixedWordsRoundTrip : Prop :=
  ∀ (i : Instr) (c : Ctx), i.fixedPlace = some c →
    ∃ r, decodeStream c (encode i) = some (.instr i r) ∧ r.cnt = 0 ∧ r.buf = 0 ∧
      ∀ bs, encode i = .bytes bs → r.ip = bs.length

/-- 30_encoding.md R61, R62, R68 to R71: where a table gives the symbol of a well-formed instruction a code, decoding that code and the
extra bits in that table is the instruction, with every operand at every value, and uses every bit. -/
def Obligations.TableCodedWordsRoundTrip : Prop :=
  ∀ (t : Table) (i : Instr) (c : Ctx) (sym n e L rcode : Nat), i.wellFormed = true → i.codedPlace t = some c →
    encode i = .coded sym n e → t.codes sym L rcode →
    decodeStream c ((encode i).inTable L rcode) = some (.instr i { ip := 0, cnt := 0, buf := 0 })

/-- 30_encoding.md R79, 20_memory.md R47, R49: under every map the parameters allow, a bus access decodes to an instruction exactly when
it is the access that encodes it, and the instruction is then well formed. -/
def Obligations.HostAccessesRoundTrip : Prop :=
  ∀ (p : Params) (b : BusAccess) (i : Instr), p.wf →
    (decodeBus p b = some i ↔
      (i.wellFormed = true ∧ (encode i).onBus p = some b ∧
        (∀ a, i = .inAccess a → a.offset + a.width.bytes ≤ p.inMemSize) ∧
        (∀ a, i = .outAccess a → a.offset + a.width.bytes ≤ p.outMemSize)))

/-- 30_encoding.md R68 to R71: whatever the stream, the table and the place, a decoded instruction is well formed. -/
def Obligations.DecodedElementsAreWellFormed : Prop :=
  ∀ (c : Ctx) (byte : Nat → Option Byte) (len : Nat) (r r' : Reader) (i : Instr),
    decode c byte len r = .instr i r' → i.wellFormed = true

/-! ## The bit reader -/

/-- 40_bitreader.md R91: readBits(n) answers the next n stream bits, first bit least significant, and consumes them, loading no byte it
does not need; where the input ends before them it raises TruncatedInput with IP at the end of the input and fewer than n bits
buffered. -/
def Obligations.ReadBitsReturnsStreamBits : Prop :=
  ∀ (byte : Nat → Byte) (len n : Nat) (r : Reader), n ≤ 16 → r.Holds byte →
    (r.bitPos + n ≤ 8 * Nat.max len r.ip →
      ∃ r', readBits (fun a => some (byte a)) len n r = .ok (streamField byte r.bitPos n) r' ∧
        r'.bitPos = r.bitPos + n ∧ r'.Holds byte ∧ (n ≤ r.cnt → r'.ip = r.ip) ∧
        r'.cnt ≤ Nat.max r.cnt 7 ∧ r'.ip ≤ Nat.max len r.ip) ∧
    (8 * Nat.max len r.ip < r.bitPos + n →
      ∃ r', readBits (fun a => some (byte a)) len n r = .raise .truncatedInput r' ∧
        r'.bitPos = r.bitPos ∧ r'.Holds byte ∧ r'.ip = Nat.max len r.ip ∧ r'.cnt < n)

/-- 40_bitreader.md R92: readCodeByTable refills until T.max bits are buffered or the input ends, looks up the window of the next T.max
stream bits, zero bits past the end of the input; an empty slot raises InvalidCode, a code longer than the buffered bits raises
TruncatedInput, and otherwise exactly the code is consumed. -/
def Obligations.ReadCodeConsumesItsCode : Prop :=
  ∀ (byte : Nat → Byte) (len : Nat) (t : Table) (r : Reader), r.Holds byte →
    ∃ (r₁ : Reader) (w : Nat), r₁.Holds byte ∧ r₁.bitPos = r.bitPos ∧
      (t.max.toNat ≤ r₁.cnt ∨ len ≤ r₁.ip) ∧ (t.max.toNat ≤ r.cnt → r₁ = r) ∧
      r₁.cnt ≤ Nat.max r.cnt (t.max.toNat + 7) ∧ r₁.ip ≤ Nat.max len r.ip ∧
      (∀ i, w.testBit i = (decide (i < t.max.toNat) && (decide (i < r₁.cnt) && streamBit byte (r.bitPos + i)))) ∧
      readCode (fun a => some (byte a)) len t r =
        if slotLen (t.slot w) = 0 then .raise .invalidCode r₁
        else if r₁.cnt < slotLen (t.slot w) then .raise .truncatedInput r₁
        else .ok (slotSym (t.slot w)) (r₁.consume (slotLen (t.slot w)))

/-! ## The table builder -/

/-- 41_huffman_builder.md R105, R106: the two ROMs are the tables built from the fixed code's lengths; FLIT has no empty slot, and
FDIST exactly two, 15 and 31. R104: the tables of degenerate length sets. -/
def Obligations.FixedAndDegenerateTables : Prop :=
  buildTable fixedLitLenLengths = flit ∧ buildTable fixedDistanceLengths = fdist ∧
  flit.max = 9 ∧ flit.min = 7 ∧ flit.slots.length = 512 ∧ flit.slots.all (· != 0) = true ∧
  fdist.max = 5 ∧ fdist.min = 5 ∧ fdist.slots.length = 32 ∧
  (List.range 32).all (fun j => decide (fdist.slot j = 0) == (j == 15 || j == 31)) = true ∧
  buildTable [0, 0, 0] = { max := 0, min := 0, slots := [0] } ∧
  buildTable [1] = { max := 1, min := 1, slots := [0x00010000, 0] } ∧
  buildTable [0, 1] = { max := 1, min := 1, slots := [0x00010001, 0] } ∧
  buildTable [1, 2] = { max := 2, min := 1, slots := [0x00010000, 0x00020001, 0x00010000, 0] } ∧
  buildTable [1, 1, 1] = { max := 1, min := 1, slots := [0x00010002, 0x00010001] } ∧
  buildTable [2, 2, 2, 2, 2] = { max := 2, min := 2, slots := [0x00020004, 0x00020002, 0x00020001, 0x00020003] } ∧
  buildTable [2, 1, 3, 3] =
    { max := 3, min := 1, slots := [0x00010001, 0x00020000, 0x00010001, 0x00030002, 0x00010001, 0x00020000, 0x00010001, 0x00030003] }

/-- 41_huffman_builder.md R100, R101, R103: T.max is the longest length and T.min the shortest that is not 0 (0 when all are), and a
built table has 2^T.max slots, each of them empty or the length and symbol of a used symbol, whatever the lengths are. -/
def Obligations.BuiltSlotsAreEmptyOrUsed : Prop :=
  ∀ lengths : List Nat, (∀ l ∈ lengths, l ≤ 15) →
    (buildTable lengths).max.toNat = lengths.foldl Nat.max 0 ∧
    ((∀ l ∈ lengths, l = 0) → (buildTable lengths).min = 0) ∧
    ((∃ l ∈ lengths, l ≠ 0) → (buildTable lengths).min.toNat ∈ lengths ∧ (buildTable lengths).min ≠ 0 ∧
      ∀ l ∈ lengths, l ≠ 0 → (buildTable lengths).min.toNat ≤ l) ∧
    (buildTable lengths).slots.length = 2 ^ (buildTable lengths).max.toNat ∧
    ∀ w ∈ (buildTable lengths).slots, w = 0 ∨ ∃ i l, lengths[i]? = some l ∧ 1 ≤ l ∧ w = slotWord l i

/-- 41_huffman_builder.md R102, R103: for lengths that are not oversubscribed, every window that begins with a symbol's canonical code,
most significant bit first, selects that symbol: the code is prefix-free and no slot is written twice. -/
def Obligations.CanonicalCodesAreDecoded : Prop :=
  ∀ (lengths : List Nat) (i l : Nat), lengths.length ≤ 2 ^ 16 → (∀ x ∈ lengths, x ≤ 15) → notOversubscribed lengths →
    lengths[i]? = some l → 1 ≤ l →
    canonicalCode lengths i < 2 ^ l ∧ (buildTable lengths).codes i l (revBits l (canonicalCode lengths i))

/-! ## START, the headers and the stored block -/

/-- 42_block_decoder.md R110: the initialisation of a decode. The bytes of OUT at OP and above, now all of them, are unspecified; that
they are a fresh draw of free values, with no byte listed, is the model's choice (assumption 18). -/
def Obligations.StartInitialisesDecode : Prop :=
  ∀ s : State, exec .startStep s = .next
    { s with
      ip := s.index, bitBuf := 0, bitCnt := 0, op := 0
      cap := BitVec.ofNat 32 (Nat.min s.bufSize.toNat s.par.outMemSize)
      bfinal := 0, btype := 0, hlit := 0, hdist := 0, hclen := 0, clIdx := 0, prev := 0
      litt := flit, distt := fdist, done := false, err := false, errCode := 0
      outLen := 0, adler := 0, trailer := 0, errIp := 0, errOp := 0
      outMem := [], outDraw := s.outDraw + 1
      fsm := if s.mode = true then .zhdr else .bhdr
      pend := .none }

/-- 42_block_decoder.md R111, the checks: a header with CM = 8, a zero remainder and FDICT = 0 is accepted; the others raise the first
error in the source's order. -/
def Obligations.ZlibHeaderAcceptedOrRejected : Prop :=
  ∀ (cmf flg : BitVec 8) (s : State),
    (cmf.toNat % 16 = 8 → (cmf.toNat * 256 + flg.toNat) % 31 = 0 → flg.getLsbD 5 = false →
      exec (.zhdr cmf flg) s = .next { s with fsm := .bhdr, pend := .none }) ∧
    (cmf.toNat % 16 ≠ 8 → exec (.zhdr cmf flg) s = .next (s.enterError .unsupportedMethod)) ∧
    (cmf.toNat % 16 = 8 → (cmf.toNat * 256 + flg.toNat) % 31 ≠ 0 →
      exec (.zhdr cmf flg) s = .next (s.enterError .invalidHeaderChecksum)) ∧
    (cmf.toNat % 16 = 8 → (cmf.toNat * 256 + flg.toNat) % 31 = 0 → flg.getLsbD 5 = true →
      exec (.zhdr cmf flg) s = .next (s.enterError .unsupportedFeature))

/-- 42_block_decoder.md R111: the whole ZHDR step, the reading of the two bytes among it. -/
def Obligations.ZlibHeaderStep : Prop :=
  ∀ s : State, s.Inv → s.script = [] → s.fsm = .zhdr →
    step s =
      if s.inLen.toNat < s.ip.toNat + 2 then .next (s.advance.enterError .truncatedInput)
      else if (s.inByte s.ip.toNat) &&& 0x0F ≠ 8 then .next ({ s.advance with ip := s.ip + 2 }.enterError .unsupportedMethod)
      else if ((s.inByte s.ip.toNat).toNat * 256 + (s.inByte (s.ip.toNat + 1)).toNat) % 31 ≠ 0 then
        .next ({ s.advance with ip := s.ip + 2 }.enterError .invalidHeaderChecksum)
      else if (s.inByte (s.ip.toNat + 1)) &&& 0x20 ≠ 0 then .next ({ s.advance with ip := s.ip + 2 }.enterError .unsupportedFeature)
      else .next { s.advance with ip := s.ip + 2, fsm := .bhdr }

/-- 42_block_decoder.md R112, 30_encoding.md R64: each block type writes BFINAL and BTYPE and selects its state; a fixed block selects
the ROM tables; type 3 raises UnknownBlockType. -/
def Obligations.BlockTypesSelectTheirState : Prop :=
  ∀ (f : BitVec 1) (s : State),
    exec (.blockStored f) s = .next { s with bfinal := f, btype := 0, fsm := .stored, pend := .none } ∧
    exec (.blockFixed f) s = .next { s with bfinal := f, btype := 1, litt := flit, distt := fdist, fsm := .body, pend := .none } ∧
    exec (.blockDynamic f) s = .next { s with bfinal := f, btype := 2, fsm := .dynhdr, pend := .none } ∧
    exec (.blockReserved f) s = .next
      { s with bfinal := f, btype := 3, fsm := .error, err := true, errCode := 0x05, errIp := s.ip, errOp := s.op, outLen := 0,
               pend := .none }

/-- 42_block_decoder.md R112: the whole BHDR step. The first stream bit is BFINAL and the next two are BTYPE; where the input ends
inside the header the step raises TruncatedInput, with BFINAL written if its bit was there. -/
def Obligations.BlockHeaderStep : Prop :=
  ∀ s : State, s.Inv → s.script = [] → s.fsm = .bhdr →
    (s.reader.bitPos + 3 ≤ s.streamEnd →
      ∃ t, step s = .next t ∧ t.reader.bitPos = s.reader.bitPos + 3 ∧
        t.bfinal.toNat = streamField s.inByte s.reader.bitPos 1 ∧
        t.btype.toNat = streamField s.inByte (s.reader.bitPos + 1) 2 ∧
        (t.btype = 0 → t.fsm = .stored) ∧ (t.btype = 1 → t.fsm = .body ∧ t.litt = flit ∧ t.distt = fdist) ∧
        (t.btype = 2 → t.fsm = .dynhdr) ∧ (t.btype = 3 → t.fsm = .error ∧ t.errCode = 0x05)) ∧
    (s.streamEnd < s.reader.bitPos + 3 →
      ∃ t, step s = .next t ∧ t.fsm = .error ∧ t.errCode = 0x06 ∧ t.btype = s.btype ∧
        (s.reader.bitPos + 1 ≤ s.streamEnd → t.bfinal.toNat = streamField s.inByte s.reader.bitPos 1) ∧
        (s.streamEnd < s.reader.bitPos + 1 → t.bfinal = s.bfinal))

/-- 42_block_decoder.md R113, the checks of LEN and NLEN: the errors in their order, and otherwise the capacity is what
grow(OP + LEN, 2) leaves, which has room for the data, and the data bytes follow, or with LEN = 0 the block ends. -/
def Obligations.StoredHeaderChecks : Prop :=
  ∀ (len nlen : BitVec 16) (s : State), s.cap.toNat ≤ s.par.outMemSize → s.par.outMemSize ≤ 2 ^ 31 →
    (len ≠ nlen ^^^ 0xFFFF → exec (.lenNlen len nlen) s = .next (s.enterError .invalidStoredBlockHeader)) ∧
    (len = nlen ^^^ 0xFFFF → s.inLen.toNat < s.ip.toNat + len.toNat →
      exec (.lenNlen len nlen) s = .next (s.enterError .inputBufferBroken)) ∧
    (len = nlen ^^^ 0xFFFF → s.ip.toNat + len.toNat ≤ s.inLen.toNat → s.par.outMemSize < s.op.toNat + len.toNat →
      exec (.lenNlen len nlen) s = .next (s.enterError .outputOverflow)) ∧
    (len = nlen ^^^ 0xFFFF → s.ip.toNat + len.toNat ≤ s.inLen.toNat → s.op.toNat + len.toNat ≤ s.par.outMemSize →
      ∃ g : State, s.grow (s.op.toNat + len.toNat) (some 2) = .ok g ∧
        s.cap.toNat ≤ g.cap.toNat ∧ s.op.toNat + len.toNat ≤ g.cap.toNat ∧ g.cap.toNat ≤ s.par.outMemSize ∧
        exec (.lenNlen len nlen) s = .next
          { s with
            cap := g.cap
            pend := if len = 0 then .none else .storedData len.toNat
            fsm := if len = 0 then (if s.bfinal = 1 then .finish else .bhdr) else s.fsm })

/-- 42_block_decoder.md R113, one data byte: it is written at OP, it writes no other byte of OUT, and after the last byte the block
ends. (The bytes above the new OP are unspecified, 20_memory.md R42; that they read as in the draw the step has made is the model's
choice, assumption 18.) -/
def Obligations.StoredByteIsCopied : Prop :=
  ∀ (b : BitVec 8) (n : Nat) (s : State), s.op.toNat < s.par.outMemSize → s.pend = .storedData (n + 1) →
    ∃ t, exec (.data b) s = .next t ∧ (∀ a, t.outByte a = if a = s.op.toNat then b else s.outByte a) ∧
      t = { s with
            outMem := t.outMem, op := s.op + 1
            pend := if n = 0 then .none else .storedData n
            fsm := if n = 0 then (if s.bfinal = 1 then .finish else .bhdr) else s.fsm }

/-- 42_block_decoder.md R113: the whole STORED step. It aligns to a byte, reads and checks LEN and NLEN, and copies LEN bytes of IN to
OUT, all in one step. The bytes of OUT below OP stay; those from the new OP on, which are unspecified (20_memory.md R42), are free
values, by the model's choice a fresh draw of the step (assumption 18). -/
def Obligations.StoredBlockStep : Prop :=
  ∀ s : State, s.Inv → s.script = [] → s.fsm = .stored →
    ∀ len nlen : BitVec 16, len = s.inByte (s.ip.toNat + 1) ++ s.inByte s.ip.toNat →
      nlen = s.inByte (s.ip.toNat + 3) ++ s.inByte (s.ip.toNat + 2) →
      (s.inLen.toNat < s.ip.toNat + 4 →
        step s = .next ({ s.advance with bitCnt := 0, bitBuf := 0 }.enterError .invalidStoredBlockHeader)) ∧
      (s.ip.toNat + 4 ≤ s.inLen.toNat → len ≠ nlen ^^^ 0xFFFF →
        step s = .next ({ s.advance with ip := s.ip + 4, bitCnt := 0, bitBuf := 0 }.enterError .invalidStoredBlockHeader)) ∧
      (s.ip.toNat + 4 ≤ s.inLen.toNat → len = nlen ^^^ 0xFFFF → s.inLen.toNat < s.ip.toNat + 4 + len.toNat →
        step s = .next ({ s.advance with ip := s.ip + 4, bitCnt := 0, bitBuf := 0 }.enterError .inputBufferBroken)) ∧
      (s.ip.toNat + 4 + len.toNat ≤ s.inLen.toNat → len = nlen ^^^ 0xFFFF → s.par.outMemSize < s.op.toNat + len.toNat →
        step s = .next ({ s.advance with ip := s.ip + 4, bitCnt := 0, bitBuf := 0 }.enterError .outputOverflow)) ∧
      (s.ip.toNat + 4 + len.toNat ≤ s.inLen.toNat → len = nlen ^^^ 0xFFFF → s.op.toNat + len.toNat ≤ s.par.outMemSize →
        ∃ g t : State, s.grow (s.op.toNat + len.toNat) (some 2) = .ok g ∧ step s = .next t ∧
          t = { s.advance with
                ip := s.ip + 4 + BitVec.ofNat 32 len.toNat, bitCnt := 0, bitBuf := 0
                cap := g.cap, outMem := t.outMem, op := s.op + BitVec.ofNat 32 len.toNat
                fsm := if s.bfinal = 1 then .finish else .bhdr } ∧
          (∀ k, k < len.toNat → t.outByte (s.op.toNat + k) = s.inByte (s.ip.toNat + 4 + k)) ∧
          (∀ a, a < s.op.toNat → t.outByte a = s.outByte a) ∧
          ∀ a, s.op.toNat + len.toNat ≤ a → t.outByte a = Config.freeOut t.outDraw a)

/-! ## Dynamic headers and code lengths -/

/-- 42_block_decoder.md R114, 30_encoding.md R66, R67: the counts with their biases, and code-length code length number i at
CLLEN[ORDER[i]]. The last one ends the header: the entries not sent are 0, CLT is built, LENS is cleared, CLIDX and PREV are 0, and the
code-length symbols follow. -/
def Obligations.DynamicHeaderElements : Prop :=
  (∀ (a b : BitVec 5) (c : BitVec 4) (s : State), ∃ t, exec (.dyn a b c) s = .next t ∧
    t.hlit.toNat = a.toNat + 257 ∧ t.hdist.toNat = b.toNat + 1 ∧ t.hclen.toNat = c.toNat + 4 ∧
    t = { s with hlit := t.hlit, hdist := t.hdist, hclen := t.hclen, pend := .clLengths 0 }) ∧
  (∀ (l : BitVec 3) (i : Nat) (s : State), s.pend = .clLengths i → i + 1 < s.hclen.toNat → s.hclen.toNat ≤ 19 →
    exec (.cll l) s = .next { s with clLen := s.clLen.setIfInBounds (clOrder.getD i 19) l, pend := .clLengths (i + 1) }) ∧
  (∀ (l : BitVec 3) (i : Nat) (s : State), s.pend = .clLengths i → i + 1 = s.hclen.toNat → s.hclen.toNat ≤ 19 →
    ∃ t, exec (.cll l) s = .next t ∧
      (∀ j, j < i → t.clLen[clOrder.getD j 19]? = s.clLen[clOrder.getD j 19]?) ∧
      t.clLen[clOrder.getD i 19]? = some l ∧
      (∀ j, i < j → j < 19 → t.clLen[clOrder.getD j 19]? = some 0) ∧
      t = { s with
            clLen := t.clLen, clt := buildTable (t.clLen.toList.map BitVec.toNat)
            lens := Vector.replicate 320 0, clIdx := 0, prev := 0, fsm := .clens, pend := .none })

/-- 42_block_decoder.md R114: the whole DYNHDR step. Where the input ends inside the header it raises TruncatedInput, and the fields
read before that stand. -/
def Obligations.DynamicHeaderStep : Prop :=
  ∀ s : State, s.Inv → s.script = [] → s.fsm = .dynhdr →
    ∀ p hclen : Nat, p = s.reader.bitPos → hclen = streamField s.inByte (p + 10) 4 + 4 →
      (p + 14 + 3 * hclen ≤ s.streamEnd →
        ∃ t, step s = .next t ∧ t.reader.bitPos = p + 14 + 3 * hclen ∧ t.fsm = .clens ∧
          t.hlit.toNat = streamField s.inByte p 5 + 257 ∧ t.hdist.toNat = streamField s.inByte (p + 5) 5 + 1 ∧
          t.hclen.toNat = hclen ∧
          (∀ i, i < 19 → t.clLen[clOrder.getD i 19]? =
            some (BitVec.ofNat 3 (if i < hclen then streamField s.inByte (p + 14 + 3 * i) 3 else 0))) ∧
          t.clt = buildTable (t.clLen.toList.map BitVec.toNat) ∧ t.lens = Vector.replicate 320 0 ∧ t.clIdx = 0 ∧ t.prev = 0) ∧
      ((s.streamEnd < p + 14 ∨ s.streamEnd < p + 14 + 3 * hclen) →
        ∃ t, step s = .next t ∧ t.fsm = .error ∧ t.errCode = 0x06 ∧
          (p + 5 ≤ s.streamEnd → t.hlit.toNat = streamField s.inByte p 5 + 257) ∧
          (p + 10 ≤ s.streamEnd → t.hdist.toNat = streamField s.inByte (p + 5) 5 + 1) ∧
          (p + 14 ≤ s.streamEnd → t.hclen.toNat = hclen ∧
            ∀ i, i < hclen → p + 14 + 3 * (i + 1) ≤ s.streamEnd →
              t.clLen[clOrder.getD i 19]? = some (BitVec.ofNat 3 (streamField s.inByte (p + 14 + 3 * i) 3))))

/-- 42_block_decoder.md R115: the symbols 0 .. 15 (CL 0 .. CL 15) write one code length and set PREV; the sequence ends at
HLIT + HDIST. -/
def Obligations.CodeLengthSymbolsWriteOneLength : Prop :=
  ∀ (i : Instr) (sym e : Nat) (s : State), i.clSymbol = some (sym, e) → sym ≤ 15 → s.pend = .none → s.clIdx.toNat < 320 →
    exec i s = .next
      { s with
        lens := s.lens.setIfInBounds s.clIdx.toNat (BitVec.ofNat 4 sym), clIdx := s.clIdx + 1, prev := BitVec.ofNat 4 sym
        fsm := if s.clIdx.toNat + 1 = s.hlit.toNat + s.hdist.toNat then .dynbuild else s.fsm }

/-- 42_block_decoder.md R116 to R118: CL 16 repeats PREV, CL 17 and CL 18 repeat 0 and clear PREV; a repeat past HLIT + HDIST raises
CodeLengthOverrun and writes nothing. -/
def Obligations.CodeLengthRepeats : Prop :=
  ∀ (i : Instr) (r : Nat) (v : BitVec 4) (s : State),
    ((∃ e, i = .cl16 e ∧ r = 3 + e.toNat ∧ v = s.prev) ∨ (∃ e, i = .cl17 e ∧ r = 3 + e.toNat ∧ v = 0) ∨
      (∃ e, i = .cl18 e ∧ r = 11 + e.toNat ∧ v = 0)) →
    s.pend = .none → s.hlit.toNat ≤ 288 → s.hdist.toNat ≤ 32 →
    (s.hlit.toNat + s.hdist.toNat < s.clIdx.toNat + r → exec i s = .next (s.enterError .codeLengthOverrun)) ∧
    (s.clIdx.toNat + r ≤ s.hlit.toNat + s.hdist.toNat →
      ∃ t, exec i s = .next t ∧ t.clIdx.toNat = s.clIdx.toNat + r ∧ t.prev = v ∧
        (∀ k, s.clIdx.toNat ≤ k → k < s.clIdx.toNat + r → t.lens[k]? = some v) ∧
        (∀ k, k < s.clIdx.toNat ∨ s.clIdx.toNat + r ≤ k → t.lens[k]? = s.lens[k]?) ∧
        t = { s with
              lens := t.lens, clIdx := t.clIdx, prev := t.prev
              fsm := if s.clIdx.toNat + r = s.hlit.toNat + s.hdist.toNat then .dynbuild else s.fsm })

/-- 42_block_decoder.md R119: DYNBUILD builds the two tables of the block from LENS. -/
def Obligations.DynbuildBuildsBothTables : Prop :=
  ∀ s : State, exec .dynbuild s = .next
    { s with
      litt := buildTable ((s.lens.toList.take s.hlit.toNat).map BitVec.toNat)
      distt := buildTable (((s.lens.toList.drop s.hlit.toNat).take s.hdist.toNat).map BitVec.toNat)
      fsm := .body, pend := .none }

/-! ## The block body -/

/-- 43_lz77_copy.md R141: a literal (LIT 0x00 .. LIT 0xFF of the fixed code, LIT of a dynamic table) makes room, writes its byte at OP and
adds 1 to OP; it writes no other byte of OUT; past OUT_MEM_SIZE it raises OutputOverflow and writes nothing. (The bytes above the new
OP are unspecified, 20_memory.md R42; that they read as in the draw the step has made is the model's choice, assumption 18.) -/
def Obligations.LiteralWritesItsByte : Prop :=
  ∀ (i : Instr) (v : BitVec 8) (s : State), i.literalOf = some v → s.cap.toNat ≤ s.par.outMemSize → s.par.outMemSize ≤ 2 ^ 31 →
    (s.par.outMemSize ≤ s.op.toNat → exec i s = .next (s.enterError .outputOverflow)) ∧
    (s.op.toNat < s.par.outMemSize →
      ∃ g t : State, (if s.cap.toNat ≤ s.op.toNat then s.grow (s.op.toNat + 1) none else .ok s) = .ok g ∧
        exec i s = .next t ∧ (∀ a, t.outByte a = if a = s.op.toNat then v else s.outByte a) ∧
        t = { s with cap := g.cap, outMem := t.outMem, op := s.op + 1 })

/-- 43_lz77_copy.md R142: the end of a block, of the fixed code and of a dynamic table, rewinds the reader and goes to FINISH after the
final block, else to the next header. -/
def Obligations.EndOfBlockRewinds : Prop :=
  ∀ (i : Instr) (s : State), (i = .eob ∨ i = .eobDyn) → s.bitCnt.toNat ≤ 8 * s.ip.toNat →
    ∃ t, exec i s = .next t ∧ t.ip.toNat = s.ip.toNat - s.bitCnt.toNat / 8 ∧ t.bitCnt.toNat = s.bitCnt.toNat % 8 ∧
      t.bitBuf.toNat = s.bitBuf.toNat % 2 ^ (s.bitCnt.toNat % 8) ∧ t.reader.bitPos = s.reader.bitPos ∧
      t = { s with
            ip := t.ip, bitCnt := t.bitCnt, bitBuf := t.bitBuf
            fsm := if s.bfinal = 1 then .finish else .bhdr, pend := .none }

/-- 43_lz77_copy.md R143, 30_encoding.md R70: a length symbol (LEN 257 .. LEN 287 of the fixed code, LEN of a dynamic table) gives
LBASE[idx] plus its extra bits, 3 to 258, and its distance follows in the same step. -/
def Obligations.LengthSymbolsGiveTheirLength : Prop :=
  ∀ (i : Instr) (n : Nat) (s : State), i.lengthOf = some n → i.wellFormed = true →
    3 ≤ n ∧ n ≤ 258 ∧ exec i s = .next { s with pend := .distance n }

/-- 43_lz77_copy.md R143, R144: a distance symbol (DIST 0 .. DIST 29 of the fixed code, DIST of a dynamic table) copies the match
forward, one byte at a time: byte k of it is byte k mod dist of the last dist bytes, it writes no other byte of OUT, and CAP has room.
(The bytes from the new OP on are unspecified, 20_memory.md R42; that they read as in the draw the step has made is the model's choice,
assumption 18.) -/
def Obligations.MatchCopiesForward : Prop :=
  ∀ (i : Instr) (dist n : Nat) (s : State), i.distanceOf = some dist → i.wellFormed = true → s.pend = .distance n →
    s.cap.toNat ≤ s.par.outMemSize → s.par.outMemSize ≤ 2 ^ 31 → dist ≤ s.op.toNat → s.op.toNat + n ≤ s.par.outMemSize →
    1 ≤ dist ∧ dist ≤ 32768 ∧
    ∃ g t : State, s.grow (s.op.toNat + n) none = .ok g ∧ exec i s = .next t ∧
      (∀ k, k < n → t.outByte (s.op.toNat + k) = s.outByte (s.op.toNat - dist + k % dist)) ∧
      (∀ a, a < s.op.toNat ∨ s.op.toNat + n ≤ a → t.outByte a = s.outByte a) ∧
      s.op.toNat + n ≤ t.cap.toNat ∧ t.cap.toNat ≤ s.par.outMemSize ∧
      t = { s with cap := g.cap, outMem := t.outMem, op := s.op + BitVec.ofNat 32 n, pend := .none }

/-- 43_lz77_copy.md R143: a distance before the first output byte raises InvalidDistance; a match past OUT_MEM_SIZE raises
OutputOverflow; a dynamic table's distance symbols 30 and 31 raise InvalidDistance, and the fixed code's 11110 and 11111 InvalidCode
(30_encoding.md R74). -/
def Obligations.InvalidMatchesRaise : Prop :=
  ∀ s : State,
    (∀ (i : Instr) (dist : Nat), i.distanceOf = some dist → s.op.toNat < dist → exec i s = .next (s.enterError .invalidDistance)) ∧
    (∀ (i : Instr) (dist n : Nat), i.distanceOf = some dist → dist ≤ s.op.toNat → s.pend = .distance n →
      s.cap.toNat ≤ s.par.outMemSize → s.par.outMemSize < s.op.toNat + n → exec i s = .next (s.enterError .outputOverflow)) ∧
    (∀ d, exec (.distInvalid d) s = .next (s.enterError .invalidDistance)) ∧
    exec .distInvalid11110 s = .next (s.enterError .invalidCode) ∧
    exec .distInvalid11111 s = .next (s.enterError .invalidCode)

/-- 43_lz77_copy.md R143, R144: the whole step of a length/distance pair. After a length symbol the step reads a distance: a read error
ends it in error entry, and so do the invalid symbols, a distance past the first output byte and a match past OUT, in this order; else
the match is copied, each byte from dist bytes back. Below OP nothing changes; the bytes from the new OP on, which are unspecified
(20_memory.md R42), are free values, by the model's choice a fresh draw of the step (assumption 18). -/
def Obligations.LengthDistancePairStep : Prop :=
  ∀ (s : State) (i : Instr) (n : Nat) (r : Reader), s.Inv → s.script = [] → s.fsm = .body →
    decode (.litLen s.fixedBody s.litt) s.readIn s.inLen.toNat s.reader = .instr i r → i.lengthOf = some n →
    (∀ (e : ErrorCode) (r' : Reader) (got : List Nat),
      decode (.dist s.fixedBody s.distt) s.readIn s.inLen.toNat r = .raise e r' got →
      step s = .next ((s.advance.withReader r').enterError e)) ∧
    (∀ (j : Instr) (r' : Reader), decode (.dist s.fixedBody s.distt) s.readIn s.inLen.toNat r = .instr j r' →
      (∀ d, j = .distInvalid d → step s = .next ((s.advance.withReader r').enterError .invalidDistance)) ∧
      ((j = .distInvalid11110 ∨ j = .distInvalid11111) → step s = .next ((s.advance.withReader r').enterError .invalidCode)) ∧
      (∀ dist, j.distanceOf = some dist →
        (s.op.toNat < dist → step s = .next ((s.advance.withReader r').enterError .invalidDistance)) ∧
        (dist ≤ s.op.toNat → s.par.outMemSize < s.op.toNat + n →
          step s = .next ((s.advance.withReader r').enterError .outputOverflow)) ∧
        (dist ≤ s.op.toNat → s.op.toNat + n ≤ s.par.outMemSize →
          ∃ g t : State, (s.withReader r').grow (s.op.toNat + n) none = .ok g ∧ step s = .next t ∧
            t = { s.advance.withReader r' with cap := g.cap, outMem := t.outMem, op := s.op + BitVec.ofNat 32 n } ∧
            (∀ k, k < n → t.outByte (s.op.toNat + k) = t.outByte (s.op.toNat + k - dist)) ∧
            (∀ a, a < s.op.toNat → t.outByte a = s.outByte a) ∧
            ∀ a, s.op.toNat + n ≤ a → t.outByte a = Config.freeOut t.outDraw a)))

/-! ## Growth -/

/-- 44_output_growth.md R150, R155: grow returns at once where the write fits, raises OutputOverflow where it passes the OUT memory, and
otherwise repeats the pass until it fits, changing CAP alone. A pass takes the new size, or `required` where the new size is no larger
than the capacity, and never more than OUT_MEM_SIZE. -/
def Obligations.GrowRepeatsUntilItFits : Prop :=
  ∀ (s : State) (required : Nat) (ratio : Option Nat) (pass : Nat → Nat),
    (∀ cap, pass cap =
      Nat.min (if s.newCapacity ratio cap ≤ cap then required else s.newCapacity ratio cap) s.par.outMemSize) →
    s.cap.toNat ≤ s.par.outMemSize → s.par.outMemSize ≤ 2 ^ 31 →
    (required ≤ s.cap.toNat → s.grow required ratio = .ok s) ∧
    (s.cap.toNat < required → s.par.outMemSize < required → s.grow required ratio = .raise .outputOverflow s) ∧
    (s.cap.toNat < required → required ≤ s.par.outMemSize →
      ∃ (n : Nat) (c : Word), s.grow required ratio = .ok { s with cap := c } ∧
        c.toNat = pass^[n] s.cap.toNat ∧ required ≤ c.toNat ∧ c.toNat ≤ s.par.outMemSize ∧
        ∀ m, m < n → pass^[m] s.cap.toNat < required)

/-- 44_output_growth.md R151, R152, R153: the new size of one pass. -/
def Obligations.NewCapacityFormulas : Prop :=
  ∀ (s : State) (cap : Nat), s.index.toNat ≤ s.ip.toNat → s.ip.toNat ≤ s.inLen.toNat →
    (∀ k, s.newCapacity (some k) cap = cap * k) ∧
    (s.ip = s.index → s.newCapacity none cap = 2 * cap) ∧
    (s.index.toNat < s.ip.toNat → s.inLen.toNat - s.ip.toNat < s.ip.toNat - s.index.toNat → s.litt.min ≠ 0 →
      s.newCapacity none cap = Nat.max (cap + 129 * (s.inLen.toNat - s.ip.toNat) / s.litt.min.toNat) (2 * cap)) ∧
    (s.index.toNat < s.ip.toNat → s.inLen.toNat - s.ip.toNat < s.ip.toNat - s.index.toNat → s.litt.min = 0 →
      s.newCapacity none cap = 2 * cap) ∧
    (s.index.toNat < s.ip.toNat → s.ip.toNat - s.index.toNat ≤ s.inLen.toNat - s.ip.toNat →
      s.newCapacity none cap = cap * (s.inLen.toNat - s.index.toNat) / (s.ip.toNat - s.index.toNat))

/-! ## The end of a decode -/

/-- 45_adler32.md R160, R161: the checksum over chunks of 1024 bytes is the one that reduces after every byte, and it extends over a
concatenation. -/
def Obligations.AdlerReducesPerByte : Prop :=
  ∀ xs ys : List Byte,
    adlerCalc xs = packSums (xs.foldl adlerByte (1, 0)) ∧ adlerUpdate (adlerCalc xs) ys = adlerCalc (xs ++ ys)

/-- 42_block_decoder.md R120, 45_adler32.md R162, R163: FINISH loads ADLER with the checksum of OUT[0 .. OP-1]; with no trailer to check
it completes: OUT_LEN and CAP become OP, DONE is set. With one, the trailer follows in the same step; its word is kept, and completes
the decode where it equals ADLER, else raises ChecksumMismatch. -/
def Obligations.FinishAndTrailerComplete : Prop :=
  ∀ s : State, s.op.toNat ≤ s.par.outMemSize →
    ((s.mode && s.verify) = false → exec .finish s = .next
      { s with adler := adlerCalc ((List.range s.op.toNat).map s.outByte), outLen := s.op, cap := s.op, done := true, fsm := .done,
               pend := .none }) ∧
    ((s.mode && s.verify) = true → exec .finish s = .next
      { s with adler := adlerCalc ((List.range s.op.toNat).map s.outByte), pend := .trailer }) ∧
    (∀ w : BitVec 32, w = s.adler → exec (.trailer w) s = .next
      { s with trailer := w, outLen := s.op, cap := s.op, done := true, fsm := .done, pend := .none }) ∧
    (∀ w : BitVec 32, w ≠ s.adler → exec (.trailer w) s = .next ({ s with trailer := w }.enterError .checksumMismatch))

/-- 42_block_decoder.md R120, 45_adler32.md R162, R163: the whole FINISH step, the reading of the trailer among it. -/
def Obligations.FinishStep : Prop :=
  ∀ s : State, s.Inv → s.script = [] → s.fsm = .finish →
    ∀ a w : Word, a = adlerCalc ((List.range s.op.toNat).map s.outByte) →
      w = s.inByte s.ip.toNat ++ s.inByte (s.ip.toNat + 1) ++ s.inByte (s.ip.toNat + 2) ++ s.inByte (s.ip.toNat + 3) →
      step s =
        if (s.mode && s.verify) = false then
          .next { s.advance with adler := a, outLen := s.op, cap := s.op, done := true, fsm := .done }
        else if s.inLen.toNat < s.ip.toNat + 4 then
          .next ({ s.advance with adler := a, bitCnt := 0, bitBuf := 0 }.enterError .truncatedInput)
        else if w ≠ a then
          .next ({ s.advance with adler := a, bitCnt := 0, bitBuf := 0, ip := s.ip + 4, trailer := w }.enterError .checksumMismatch)
        else
          .next { s.advance with
                  adler := a, bitCnt := 0, bitBuf := 0, ip := s.ip + 4, trailer := w, outLen := s.op, cap := s.op, done := true
                  fsm := .done }

/-! ## Errors and the interrupt -/

/-- 60_exceptions.md R182: error entry, the one operation of every raise and of ABORT, and the number R180 gives each error. -/
def Obligations.ErrorEntryRecords : Prop :=
  ∀ (s : State) (e : ErrorCode),
    s.enterError e =
      { s with fsm := .error, err := true, errCode := e.code, errIp := s.ip, errOp := s.op, outLen := 0, pend := .none } ∧
    (s.enterError e).busy = false ∧ ((s.enterError e).irq = s.ie) ∧
    e.code =
      match e with
      | .invalidInputType => 0x01
      | .unsupportedMethod => 0x02
      | .invalidHeaderChecksum => 0x03
      | .unsupportedFeature => 0x04
      | .unknownBlockType => 0x05
      | .truncatedInput => 0x06
      | .invalidStoredBlockHeader => 0x07
      | .inputBufferBroken => 0x08
      | .checksumMismatch => 0x09
      | .invalidCode => 0x0A
      | .invalidDistance => 0x0B
      | .codeLengthOverrun => 0x0C
      | .outputOverflow => 0x0D
      | .aborted => 0x0E

/-- 10_state.md R29, 60_exceptions.md R187: IRQ is CTRL.IE and (DONE or ERR), it is low during a decode, and it falls when the host
clears both flags or IE, or resets the block. -/
def Obligations.IrqFollowsFlags : Prop :=
  ∀ s : State, s.irq = (s.ie && (s.done || s.err)) ∧ (s.Inv → s.busy = true → s.irq = false) ∧
    (∀ v : Word, v.getLsbD 1 = true → v.getLsbD 2 = true → (s.clearStatus v).irq = false) ∧
    (∀ v : Word, v.getLsbD 4 = false → (s.writeOptions v).irq = false) ∧ s.startInit.irq = false ∧ s.applyReset.irq = false

/-! ## Host commands -/

/-- 46_host_commands.md R170: a START write takes its options and begins a decode in the same step when the engine is not busy; while it
is busy only IE is written. (The counters epoch and outDraw, which pick free values, are the model's, assumptions 7 and 18.) -/
def Obligations.StartWriteBeginsDecode : Prop :=
  ∀ (s : State) (v : Word) (ms : List Move), v.getLsbD 0 = true → v.getLsbD 1 = false → s.pend = .none →
    (s.busy = false →
      exec (.start v) s =
        .next { s with ie := v.getLsbD 4, mode := v.getLsbD 2, verify := v.getLsbD 3, pend := .startStep } ∧
      (s.script = .bus { addr := s.par.regBase, bytes := 4, wdata := some v } :: ms → step s = .next
        ({ s with script := ms, epoch := s.epoch + 1, ie := v.getLsbD 4, mode := v.getLsbD 2, verify := v.getLsbD 3 }.startInit))) ∧
    (s.busy = true →
      exec (.start v) s = .next { s with ie := v.getLsbD 4 } ∧
      (s.script = .bus { addr := s.par.regBase, bytes := 4, wdata := some v } :: ms → step s = .next
        { s with script := ms, epoch := s.epoch + 1, outDraw := s.outDraw + 1, ie := v.getLsbD 4 }))

/-- 46_host_commands.md R171, R179, 60_exceptions.md R185: an ABORT write stops a running decode with Aborted, IP and OP recorded; while
the engine is not busy only the options are written. -/
def Obligations.AbortStopsRunningDecode : Prop :=
  ∀ (s : State) (v : Word),
    (s.busy = true → exec (.abort v) s = .next
      { s with ie := v.getLsbD 4, fsm := .error, err := true, errCode := 0x0E, errIp := s.ip, errOp := s.op, outLen := 0,
               pend := .none }) ∧
    (s.busy = false → exec (.abort v) s = .next { s with ie := v.getLsbD 4, mode := v.getLsbD 2, verify := v.getLsbD 3 }) ∧
    (v.getLsbD 1 = true → decodeRegWrite 0x00 v = .abort v)

/-- 46_host_commands.md R172, R173: a CONFIG write, a CTRL write with bits 1:0 = 00, sets IE always, and MODE and VERIFY when the engine
is not busy; they read back as written. A STATUS write clears DONE and ERR, each by its own bit, and nothing else. -/
def Obligations.ConfigAndClearWriteTheirFields : Prop :=
  ∀ (s : State) (v : Word),
    (s.busy = false → exec (.config v) s = .next { s with ie := v.getLsbD 4, mode := v.getLsbD 2, verify := v.getLsbD 3 }) ∧
    (s.busy = true → exec (.config v) s = .next { s with ie := v.getLsbD 4 }) ∧
    (v.getLsbD 0 = false → v.getLsbD 1 = false → decodeRegWrite 0x00 v = .config v) ∧
    (s.busy = false → ∀ t, exec (.config v) s = .next t → t.ctrlWord = v &&& 0x1C) ∧
    decodeRegWrite 0x04 v = .clear v ∧ exec (.clear v) s = .next
      { s with done := if v.getLsbD 1 then false else s.done, err := if v.getLsbD 2 then false else s.err }

/-- 46_host_commands.md R174, R175: INDEX, IN_LEN (clipped to IN_MEM_SIZE) and BUFSIZE are written when the engine is not busy; a write
while it is busy, or to a read-only or reserved offset, changes nothing. -/
def Obligations.ParametersWrittenWhenIdle : Prop :=
  ∀ (s : State) (v : Word) (off : BitVec 8), s.par.inMemSize ≤ 2 ^ 31 →
    (s.busy = false → exec (.setIndex v) s = .next { s with index := v } ∧
      exec (.setBufSize v) s = .next { s with bufSize := v } ∧
      ∃ w : Word, w.toNat = Nat.min v.toNat s.par.inMemSize ∧ exec (.setInLen v) s = .next { s with inLen := w }) ∧
    (s.busy = true → exec (.setIndex v) s = .next s ∧ exec (.setBufSize v) s = .next s ∧ exec (.setInLen v) s = .next s) ∧
    exec (.writeIgnored off v) s = .next s ∧
    decodeRegWrite 0x08 v = .setIndex v ∧ decodeRegWrite 0x0C v = .setInLen v ∧ decodeRegWrite 0x10 v = .setBufSize v ∧
    (0x14 ≤ off.toNat → decodeRegWrite off.toNat v = .writeIgnored off v)

/-- 46_host_commands.md R176, 10_state.md R10 to R19, R30, R32: what a register read returns. CTRL, STATUS, INDEX, IN_LEN and BUFSIZE
read their stored values at all times and a reserved offset reads 0; the result registers read theirs while the engine is not busy, and
while it is busy a free value, which may be any. (That the value read stands in `readData`, and which free value it is, are the model's
choices, assumptions 7 and 8.) -/
def Obligations.RegisterReads : Prop :=
  ∀ (s : State) (off : BitVec 8), ∃ v : Word, exec (.readReg off) s = .next { s with readData := v } ∧
    (off = 0x00 → v.toNat = 4 * s.mode.toNat + 8 * s.verify.toNat + 16 * s.ie.toNat) ∧
    (off = 0x04 → v.toNat = s.busy.toNat + 2 * s.done.toNat + 4 * s.err.toNat + 256 * s.errCode.toNat) ∧
    (off = 0x08 → v = s.index) ∧ (off = 0x0C → v = s.inLen) ∧ (off = 0x10 → v = s.bufSize) ∧
    (0x30 ≤ off.toNat → v = 0) ∧
    (s.busy = false → (off = 0x14 → v = s.outLen) ∧ (off = 0x18 → v = s.adler) ∧ (off = 0x1C → v = s.trailer) ∧
      (off = 0x20 → v = s.errIp) ∧ (off = 0x24 → v = s.errOp) ∧ (off = 0x28 → v = s.cap) ∧
      (off = 0x2C → v.toNat % 2 ^ 32 = (8 * s.ip.toNat + (2 ^ 32 - s.bitCnt.toNat)) % 2 ^ 32)) ∧
    (s.busy = true → 0x14 ≤ off.toNat → off.toNat ≤ 0x2C → v = Config.busyRead s.epoch off)

/-- 46_host_commands.md R177, R178, 20_memory.md R46: a read through the IN or OUT window returns the stored bytes, the byte at the
lowest address the least significant, at any time, and changes nothing else. (That the value read stands in `readData` is the model's
choice, assumption 8.) -/
def Obligations.WindowReadsReturnBytes : Prop :=
  ∀ (s : State) (a : MemAccess), a.wdata = none →
    (a.legal s.par.inMemSize = true → ∃ v : Word, exec (.inAccess a) s = .next { s with readData := v } ∧
      v.toNat < 2 ^ (8 * a.width.bytes) ∧
      ∀ k, k < a.width.bytes → v.toNat / 2 ^ (8 * k) % 2 ^ 8 = (s.inByte (a.offset + k)).toNat) ∧
    (a.legal s.par.outMemSize = true → ∃ v : Word, exec (.outAccess a) s = .next { s with readData := v } ∧
      v.toNat < 2 ^ (8 * a.width.bytes) ∧
      ∀ k, k < a.width.bytes → v.toNat / 2 ^ (8 * k) % 2 ^ 8 = (s.outByte (a.offset + k)).toNat)

/-- 46_host_commands.md R177, R178, 20_memory.md R46: a write through the IN or OUT window stores its bytes while the engine is not busy,
and changes nothing else; while BUSY = 1 it is refused by name (assumption 10). -/
def Obligations.WindowWritesStoreBytes : Prop :=
  ∀ (s : State) (a : MemAccess) (v : Word), a.wdata = some v →
    (s.busy = false → a.legal s.par.inMemSize = true → ∃ t, exec (.inAccess a) s = .next t ∧ t = { s with inMem := t.inMem } ∧
      (∀ k, k < a.width.bytes → t.inByte (a.offset + k) = BitVec.ofNat 8 (v.toNat / 2 ^ (8 * k))) ∧
      ∀ x, x < a.offset ∨ a.offset + a.width.bytes ≤ x → t.inByte x = s.inByte x) ∧
    (s.busy = false → a.legal s.par.outMemSize = true → ∃ t, exec (.outAccess a) s = .next t ∧ t = { s with outMem := t.outMem } ∧
      (∀ k, k < a.width.bytes → t.outByte (a.offset + k) = BitVec.ofNat 8 (v.toNat / 2 ^ (8 * k))) ∧
      ∀ x, x < a.offset ∨ a.offset + a.width.bytes ≤ x → t.outByte x = s.outByte x) ∧
    (s.busy = true → a.legal s.par.inMemSize = true → exec (.inAccess a) s = .refused .hostWriteWhileBusy) ∧
    (s.busy = true → a.legal s.par.outMemSize = true → exec (.outAccess a) s = .refused .hostWriteWhileBusy)

/-- 70_reset_and_hazards.md R206: while a decode runs, no move of the host but ABORT and RST touches it: CTRL.IE, what a read returned,
the refusal mark, the moves still to come and the free values of later reads (assumptions 7, 18) are all that can change. -/
def Obligations.HostKeepsRunningDecode : Prop :=
  ∀ (s t : State) (b : BusAccess) (ms : List Move), s.Inv → s.busy = true → s.script = .bus b :: ms →
    (∀ v, decodeBus s.par b ≠ some (.abort v)) → step s = .next t →
    t = { s with
          ie := t.ie, readData := t.readData, refusedMark := t.refusedMark, script := ms, epoch := t.epoch, outDraw := t.outDraw }
end

