-- ==== Sys2Proof/Laws/Flags.lean ====
section
/-! SUPPORT. What the words of CTRL and STATUS are as numbers, and when the engine is busy. -/

namespace Sys2Proof.Machine

theorem State.ctrlWord_toNat (s : State) : s.ctrlWord.toNat = 4 * s.mode.toNat + 8 * s.verify.toNat + 16 * s.ie.toNat := by
  unfold State.ctrlWord
  cases s.mode <;> cases s.verify <;> cases s.ie <;> rfl

theorem statusBits_toNat : ∀ (n : Fin (2 ^ 8)) (b d e : Bool),
    (0#16 ++ BitVec.ofFin n ++ 0#5 ++ BitVec.ofBool e ++ BitVec.ofBool d ++ BitVec.ofBool b).toNat =
      b.toNat + 2 * d.toNat + 4 * e.toNat + 256 * n.val := by decide +kernel

theorem State.statusWord_toNat (s : State) :
    s.statusWord.toNat = s.busy.toNat + 2 * s.done.toNat + 4 * s.err.toNat + 256 * s.errCode.toNat :=
  statusBits_toNat s.errCode.toFin s.busy s.done s.err

/-- A stopped engine stands in IDLE, DONE or ERROR (10_state.md R20). -/
theorem State.busy_eq_false (s : State) : s.busy = false ↔ s.fsm = .idle ∨ s.fsm = .done ∨ s.fsm = .error := by
  unfold State.busy
  cases s.fsm <;> decide

theorem State.writeOptions_ctrlWord (s : State) (v : Word) (h : s.busy = false) : (s.writeOptions v).ctrlWord = v &&& 0x1C := by
  apply BitVec.eq_of_toNat_eq
  rw [State.ctrlWord_toNat]
  simp only [State.writeOptions, h, Bool.false_eq_true, if_false, BitVec.toNat_and]
  have h2 : v.getLsbD 2 = v.toNat.testBit 2 := rfl
  have h3 : v.getLsbD 3 = v.toNat.testBit 3 := rfl
  have h4 : v.getLsbD 4 = v.toNat.testBit 4 := rfl
  rw [h2, h3, h4]
  apply Nat.eq_of_testBit_eq
  intro i
  rw [Nat.testBit_and]
  by_cases hi : i < 5
  · have h1 : Nat.testBit 28 1 = false := by decide
    have h0 : Nat.testBit 28 0 = false := by decide
    have e2 : Nat.testBit 28 2 = true := by decide
    have e3 : Nat.testBit 28 3 = true := by decide
    have e4 : Nat.testBit 28 4 = true := by decide
    have key : ∀ (j : Fin 5) (x y z : Bool),
        (4 * x.toNat + 8 * y.toNat + 16 * z.toNat).testBit j =
          if j.val = 2 then x else if j.val = 3 then y else if j.val = 4 then z else false := by decide
    have := key ⟨i, hi⟩ (v.toNat.testBit 2) (v.toNat.testBit 3) (v.toNat.testBit 4)
    simp only at this
    rw [this]
    interval_cases i <;> simp [h1, h0, e2, e3, e4]
  · have : ((0x1C : Word).toNat).testBit i = false := Nat.testBit_lt_two_pow (Nat.lt_of_lt_of_le (by decide : (0x1C : Word).toNat < 2 ^ 5) (Nat.pow_le_pow_right (by decide) (by omega)))
    rw [this, Bool.and_false]
    apply Nat.testBit_lt_two_pow
    refine Nat.lt_of_lt_of_le ?_ (Nat.pow_le_pow_right (by decide : 0 < 2) (by omega : 5 ≤ i))
    cases v.toNat.testBit 2 <;> cases v.toNat.testBit 3 <;> cases v.toNat.testBit 4 <;> decide

end Sys2Proof.Machine
end

