-- ==== Sys2Proof/Laws/Growth.lean ====
section
/-! SUPPORT. The laws of the growth rule (44_output_growth.md): one lemma per operation that says everything it can do. -/

namespace Sys2Proof.Machine

/-- A pass raises the capacity and keeps it within the OUT memory (R155). -/
theorem growPass_bounds (f : Nat → Nat) {required size cap : Nat} (h : cap < required) (hs : required ≤ size) :
    cap < growPass f required size cap ∧ growPass f required size cap ≤ size := by
  unfold growPass
  simp only [Nat.min_def]
  split_ifs <;> omega

/-- The growth loop ends with room for the write, within the OUT memory (R155). -/
theorem growLoop_bounds (f : Nat → Nat) {required size : Nat} (hs : required ≤ size) :
    ∀ (fuel cap : Nat), required - cap ≤ fuel → cap ≤ size →
      cap ≤ growLoop f required size fuel cap ∧ required ≤ growLoop f required size fuel cap ∧
      growLoop f required size fuel cap ≤ size
  | 0, cap, hf, hc => ⟨le_rfl, by simp only [growLoop]; omega, hc⟩
  | fuel + 1, cap, hf, hc => by
    rw [growLoop]
    split_ifs with h
    · have hp := growPass_bounds f h hs
      have := growLoop_bounds f hs fuel _ (by omega) hp.2
      omega
    · omega

/-- The capacity `grow` leaves when it neither returns at once nor overflows. -/
def State.grownCapacity (s : State) (required : Nat) (ratio : Option Nat) : Nat :=
  growLoop (s.newCapacity ratio) required s.par.outMemSize (required - s.cap.toNat) s.cap.toNat

/-- Everything `grow` can do (R150, R155): nothing, OutputOverflow with nothing changed, or a larger capacity that fits the write. -/
theorem State.grow_cases (s : State) (required : Nat) (ratio : Option Nat) (h₁ : s.cap.toNat ≤ s.par.outMemSize)
    (h₂ : s.par.outMemSize ≤ 2 ^ 31) :
    (required ≤ s.cap.toNat ∧ s.grow required ratio = .ok s) ∨
    (s.par.outMemSize < required ∧ s.grow required ratio = .raise .outputOverflow s) ∨
    (s.cap.toNat < required ∧ required ≤ s.par.outMemSize ∧ ∃ c : Word, c.toNat = s.grownCapacity required ratio ∧
      s.cap.toNat < c.toNat ∧ required ≤ c.toNat ∧ c.toNat ≤ s.par.outMemSize ∧
      s.grow required ratio = .ok { s with cap := c }) := by
  unfold State.grow
  split_ifs with ha hb
  · exact .inl ⟨ha, rfl⟩
  · exact .inr (.inl ⟨hb, rfl⟩)
  · have hg := growLoop_bounds (s.newCapacity ratio) (Nat.le_of_not_lt hb) (required - s.cap.toNat) s.cap.toNat le_rfl h₁
    have hc : (BitVec.ofNat 32 (s.grownCapacity required ratio)).toNat = s.grownCapacity required ratio := by
      rw [BitVec.toNat_ofNat, Nat.mod_eq_of_lt]
      unfold State.grownCapacity; omega
    refine .inr (.inr ⟨by omega, by omega, _, hc, ?_, ?_, ?_, rfl⟩) <;> rw [hc] <;> unfold State.grownCapacity <;> omega

/-- `grow` changes CAP alone, and never when it raises. -/
theorem State.grow_raise {s t : State} {required : Nat} {ratio : Option Nat} {e : ErrorCode}
    (h : s.grow required ratio = .raise e t) : e = .outputOverflow ∧ t = s := by
  unfold State.grow at h
  split_ifs at h
  injection h with h₁ h₂
  exact ⟨h₁.symm, h₂.symm⟩

/-- The room for a literal is there after growForLiteral, and only CAP has changed (43_lz77_copy.md R141). -/
theorem State.growForLiteral_eq (s : State) : s.growForLiteral = s.grow (s.op.toNat + 1) none := by
  unfold State.growForLiteral State.grow
  split_ifs <;> first | rfl | omega

end Sys2Proof.Machine
end

