-- ==== Sys2Proof/Laws/Memory.lean ====
section
/-! SUPPORT. The laws of byte memory: a read after a write, and the canonical form, which every memory operation keeps. -/

namespace Sys2Proof.Machine

/-! ## A read after a write -/

@[simp] theorem Mem.get_put_same (m : Mem) (a : Nat) (b : Byte) : (m.put a b).get a = some b := by
  induction m with
  | nil => simp [Mem.put, Mem.get]
  | cons c m ih =>
    obtain ⟨c, x⟩ := c
    simp only [Mem.put]
    split_ifs with h₁ h₂
    · simp [Mem.get]
    · simp [Mem.get]
    · simp [Mem.get, h₂, ih]

theorem Mem.get_put_other (m : Mem) {a a' : Nat} (b : Byte) (h : a' ≠ a) : (m.put a b).get a' = m.get a' := by
  induction m with
  | nil => simp [Mem.put, Mem.get, h]
  | cons c m ih =>
    obtain ⟨c, x⟩ := c
    simp only [Mem.put]
    split_ifs with h₁ h₂
    · simp [Mem.get, h]
    · subst h₂; simp [Mem.get, h]
    · simp only [Mem.get, ih]

/-- A read after a write, at any address. -/
theorem Mem.get_put (m : Mem) (a a' : Nat) (b : Byte) : (m.put a b).get a' = if a' = a then some b else m.get a' := by
  split_ifs with h
  · subst h; simp
  · exact m.get_put_other b h

/-! ## The canonical form -/

/-- The addresses after a write are the old ones and the written one. -/
theorem Mem.mem_put (m : Mem) (a : Nat) (b : Byte) (x : Nat) : x ∈ (m.put a b).map Prod.fst ↔ x = a ∨ x ∈ m.map Prod.fst := by
  induction m with
  | nil => simp [Mem.put]
  | cons c m ih =>
    obtain ⟨c, y⟩ := c
    simp only [Mem.put]
    split_ifs with h₁ h₂
    · simp
    · subst h₂; simp
    · simp only [List.map_cons, List.mem_cons, ih]; tauto

/-- A write keeps the canonical form. -/
theorem Mem.wf_put (m : Mem) (a : Nat) (b : Byte) (h : m.wf) : (m.put a b).wf := by
  induction m with
  | nil => simp [Mem.put, Mem.wf]
  | cons c m ih =>
    obtain ⟨c, y⟩ := c
    have hc : (∀ x ∈ m.map Prod.fst, c < x) ∧ Mem.wf m := by simpa [Mem.wf] using h
    simp only [Mem.put]
    split_ifs with h₁ h₂
    · refine List.pairwise_cons.2 ⟨fun x hx => ?_, h⟩
      rcases List.mem_cons.1 hx with rfl | hx
      · exact h₁
      · exact lt_trans h₁ (hc.1 x hx)
    · subst h₂; exact List.pairwise_cons.2 hc
    · refine List.pairwise_cons.2 ⟨fun x hx => ?_, ih hc.2⟩
      rcases (Mem.mem_put m a b x).1 hx with rfl | hx
      · show c < x; omega
      · exact hc.1 x hx

/-- A host write keeps the canonical form. -/
theorem putLittle_wf (n : Nat) (m : Mem) (a v : Nat) (h : m.wf) : (putLittle n m a v).wf := by
  induction n generalizing m a v with
  | zero => exact h
  | succ n ih => exact ih _ _ _ (Mem.wf_put m a _ h)

/-- A host write leaves every byte outside its range. -/
theorem putLittle_get_other (n : Nat) (m : Mem) (a v x : Nat) (h : x < a ∨ a + n ≤ x) :
    (putLittle n m a v).get x = m.get x := by
  induction n generalizing m a v with
  | zero => rfl
  | succ n ih =>
    rw [putLittle, ih _ _ _ (by omega), Mem.get_put_other _ _ (by omega)]

/-- Byte k of a host write holds bits 8k+7 .. 8k of the value (20_memory.md R46). -/
theorem putLittle_get (n : Nat) (m : Mem) (a v k : Nat) (h : k < n) :
    (putLittle n m a v).get (a + k) = some (BitVec.ofNat 8 (v / 2 ^ (8 * k))) := by
  induction n generalizing m a v k with
  | zero => omega
  | succ n ih =>
    rcases k with _ | k
    · rw [putLittle, putLittle_get_other _ _ _ _ _ (by omega)]; simp
    · rw [putLittle, show a + (k + 1) = a + 1 + k by omega, ih _ _ _ _ (by omega), Nat.div_div_eq_div_mul]
      congr 3
      rw [← Nat.pow_add]; congr 1; omega

/-! ## The written bytes of a decode (20_memory.md R42) -/

/-- An address is listed exactly where a read finds a byte. -/
theorem Mem.get_eq_none_iff (m : Mem) (a : Nat) : m.get a = none ↔ a ∉ m.map Prod.fst := by
  induction m with
  | nil => simp [Mem.get]
  | cons c m ih =>
    obtain ⟨c, x⟩ := c
    by_cases h : a = c <;> simp_all [Mem.get]

/-- A write past every listed address is listed last. -/
theorem Mem.map_fst_put_of_gt (m : Mem) (a : Nat) (b : Byte) (h : ∀ x ∈ m.map Prod.fst, x < a) :
    (m.put a b).map Prod.fst = m.map Prod.fst ++ [a] := by
  induction m with
  | nil => rfl
  | cons c m ih =>
    obtain ⟨c, x⟩ := c
    have hc : c < a := h c (by simp)
    rw [Mem.put, if_neg (by omega), if_neg (by omega), List.map_cons, ih fun y hy => h y (by simp [hy])]
    rfl

/-- Writing at OP lists the next address. -/
theorem Mem.map_fst_put_range {m : Mem} {n : Nat} (h : m.map Prod.fst = List.range n) (b : Byte) :
    (m.put n b).map Prod.fst = List.range (n + 1) := by
  rw [Mem.map_fst_put_of_gt m n b (by simp [h]), h, List.range_succ]

/-- While a decode runs, a byte of OUT below OP is what was written there, whatever the draw. -/
theorem State.outByte_below {s t : State} {n a : Nat} (h : s.outMem.map Prod.fst = List.range n) (ha : a < n)
    (hm : t.outMem = s.outMem) : t.outByte a = s.outByte a := by
  cases hg : s.outMem.get a with
  | none => exact absurd ((Mem.get_eq_none_iff _ _).1 hg) (by simp [h, ha])
  | some b => simp [State.outByte, hm, hg]

/-- While a decode runs, a byte of OUT at OP or above is a free value. -/
theorem State.outByte_free {s : State} {n a : Nat} (h : s.outMem.map Prod.fst = List.range n) (ha : n ≤ a) :
    s.outByte a = Config.freeOut s.outDraw a := by
  have hg : s.outMem.get a = none := (Mem.get_eq_none_iff _ _).2 (by simp [h, ha])
  simp [State.outByte, hg]

/-- The memories right after reset are in canonical form. -/
theorem State.resetWith_wf (p : Params) : (State.resetWith p).inMem.wf ∧ (State.resetWith p).outMem.wf := by
  simp [State.resetWith, Mem.wf]

/-! ## The engine's reads and writes -/

/-- Everything `emit` can do. -/
theorem State.emit_eq (s : State) (b : Byte) :
    s.emit b = if s.op.toNat < s.par.outMemSize then .ok { s with outMem := s.outMem.put s.op.toNat b, op := s.op + 1 }
      else .fault (.noOutAddress s.op.toNat) := rfl

/-- Every byte of OUT after a write of the engine. -/
theorem State.emit_outByte {s t : State} {b : Byte} (h : s.emit b = .ok t) (a : Nat) :
    t.outByte a = if a = s.op.toNat then b else s.outByte a := by
  rw [State.emit_eq] at h
  split at h
  · injection h with h; subst h
    simp only [State.outByte, Mem.get_put]
    split_ifs <;> rfl
  · exact absurd h (by simp)

/-- OUT as every byte of it reads; two states with the same written bytes and the same draw agree. -/
theorem State.outByte_congr {s t : State} (h : s.outMem = t.outMem) (hd : s.outDraw = t.outDraw) (a : Nat) :
    s.outByte a = t.outByte a := by
  simp [State.outByte, h, hd]

/-- IN as every byte of it reads; two states with the same written bytes agree. -/
theorem State.inByte_congr {s t : State} (h : s.inMem = t.inMem) (a : Nat) : s.inByte a = t.inByte a := by
  simp [State.inByte, h]

/-- The engine reads an existing address of IN. -/
theorem State.readIn_of_lt (s : State) {a : Nat} (h : a < s.par.inMemSize) : s.readIn a = some (s.inByte a) := by
  simp [State.readIn, h]

/-- A forward copy that does not stop has written `n` bytes; it changes OUT and OP alone, keeps the canonical form, and byte k of it is
byte k of the copied range, read after the earlier writes (43_lz77_copy.md R144). -/
theorem copyForward_ok (dist n : Nat) (s : State) (h₁ : 1 ≤ dist) (h₂ : dist ≤ s.op.toNat)
    (h₃ : s.op.toNat + n ≤ s.par.outMemSize) (h₄ : s.par.outMemSize ≤ 2 ^ 31) :
    ∃ m : Mem, copyForward dist n s = .ok { s with outMem := m, op := s.op + BitVec.ofNat 32 n } ∧
      (s.outMem.wf → m.wf) ∧
      (∀ a, a < s.op.toNat ∨ s.op.toNat + n ≤ a → m.get a = s.outMem.get a) ∧
      (∀ k, k < n → (m.get (s.op.toNat + k)).getD (Config.freeOut s.outDraw (s.op.toNat + k)) =
        s.outByte (s.op.toNat - dist + k % dist)) := by
  induction n generalizing s with
  | zero => exact ⟨s.outMem, by simp [copyForward], id, fun _ _ => rfl, fun k hk => absurd hk (by omega)⟩
  | succ n ih =>
    have hop : (s.op + 1).toNat = s.op.toNat + 1 := by
      rw [BitVec.toNat_add]; simp; omega
    let s₁ : State :=
      { s with outMem := s.outMem.put s.op.toNat (s.outByte (s.op.toNat - dist)), op := s.op + 1 }
    obtain ⟨m, e, w, f, g⟩ := ih s₁ (by show dist ≤ (s.op + 1).toNat; omega)
      (by show (s.op + 1).toNat + n ≤ _; rw [hop]; show _ ≤ s.par.outMemSize; omega) h₄
    have hs₁ : s₁.op.toNat = s.op.toNat + 1 := hop
    refine ⟨m, ?_, fun h => w (Mem.wf_put _ _ _ h), fun a ha => ?_, fun k hk => ?_⟩
    · rw [copyForward, if_pos (by omega), State.emit_eq, if_pos (by omega), Res.andThen, e]
      show Res.ok _ = Res.ok _
      congr 2
      show s.op + 1 + BitVec.ofNat 32 n = _
      rw [BitVec.add_assoc]; congr 1
      apply BitVec.eq_of_toNat_eq; simp [Nat.add_comm]
    · rw [f a (by omega)]
      exact Mem.get_put_other _ _ (by omega)
    · rcases k with _ | k
      · rw [Nat.add_zero, f _ (by omega)]
        show (Mem.get (s.outMem.put _ _) _).getD _ = _
        simp
      · have := g k (by omega)
        rw [hs₁] at this
        rw [show s.op.toNat + (k + 1) = s.op.toNat + 1 + k by omega, this]
        rcases Nat.lt_or_ge (k % dist + 1) dist with hlt | hge
        · have hmod : (k + 1) % dist = k % dist + 1 := by
            rw [Nat.add_mod, Nat.mod_eq_of_lt (show k % dist + 1 % dist < dist from ?_)]
            · rw [Nat.mod_eq_of_lt (show 1 < dist by omega)]
            · rw [Nat.mod_eq_of_lt (show 1 < dist by omega)]; exact hlt
          rw [hmod]
          show (Mem.get (s.outMem.put _ _) _).getD _ = _
          rw [Mem.get_put_other _ _ (by omega)]
          rw [show s.op.toNat + 1 - dist + k % dist = s.op.toNat - dist + (k % dist + 1) by omega]
          rfl
        · have hlast : k % dist + 1 = dist := by have := Nat.mod_lt k (show 0 < dist by omega); omega
          have hmod : (k + 1) % dist = 0 := by
            have : dist ∣ k + 1 := by
              refine ⟨k / dist + 1, ?_⟩
              have := Nat.div_add_mod k dist
              rw [Nat.mul_add, Nat.mul_one]; omega
            exact Nat.mod_eq_zero_of_dvd this
          rw [hmod, Nat.add_zero, show s.op.toNat + 1 - dist + k % dist = s.op.toNat by omega]
          show (Mem.get (s.outMem.put _ _) _).getD _ = _
          simp

end Sys2Proof.Machine
end

