-- ==== Sys2Proof/Laws/PerInstr.lean ====
section
/-! SUPPORT. One lemma per instruction of a statement about its words: they fit the sizes the encoding tables give. -/

namespace Sys2Proof.Laws.EncodingFits

open Sys2Proof

/-- The words fit: n stream bits hold a value below 2^n and are at most 31, so that the accumulator can hold them; a symbol is one of
288, its extra bits fit their width and are at most 13; a register offset is an aligned word of the window; a memory access is aligned
(30_encoding.md R60 to R79; 20_memory.md R47). -/
def Fits : Encoded → Prop
  | .bits n w => n ≤ 31 ∧ w < 2 ^ n
  | .bytes bs => bs.length ≤ 4
  | .coded sym n e => sym < 288 ∧ n ≤ 13 ∧ e < 2 ^ n
  | .reg off _ => off < 0x100 ∧ off % 4 = 0
  | .inWindow a => a.offset % a.width.bytes = 0
  | .outWindow a => a.offset % a.width.bytes = 0
  | .internal => True

/-- The words of a well-formed instruction fit. -/
def Statement (i : Instr) : Prop := i.wellFormed = true → Fits (encode i)

/-- A reversed code has the code's length. -/
theorem revBits_lt (n v : Nat) : revBits n v < 2 ^ n := by
  induction n generalizing v with
  | zero => simp [revBits]
  | succ n ih =>
    have h := ih (v / 2)
    have hm : v % 2 ≤ 1 := by omega
    have : v % 2 * 2 ^ n ≤ 1 * 2 ^ n := Nat.mul_le_mul_right _ hm
    rw [revBits, Nat.pow_succ]; omega

theorem lengthExtraBits_le (idx : Nat) : lengthExtraBits idx ≤ 5 := by
  rcases Nat.lt_or_ge idx 31 with h | h
  · exact (show ∀ i : Fin 31, lengthExtraBits i.val ≤ 5 by decide) ⟨idx, h⟩
  · rw [lengthExtraBits, List.getD_eq_default _ _ (by simpa [lextTable] using h)]; omega

theorem distanceExtraBits_le (d : Nat) : distanceExtraBits d ≤ 13 := by
  rcases Nat.lt_or_ge d 30 with h | h
  · exact (show ∀ i : Fin 30, distanceExtraBits i.val ≤ 13 by decide) ⟨d, h⟩
  · rw [distanceExtraBits, List.getD_eq_default _ _ (by simpa [dextTable] using h)]; omega

/-- A code of length L and n extra bits fit L + n bits. -/
theorem encodeCode_fits (L code n e : Nat) (hn : L + n ≤ 31) (he : e < 2 ^ n) : Fits (encodeCode L code n e) := by
  refine ⟨hn, ?_⟩
  have h := revBits_lt L code
  calc revBits L code + e * 2 ^ L < 2 ^ L + e * 2 ^ L := by omega
    _ = (e + 1) * 2 ^ L := by ring
    _ ≤ 2 ^ n * 2 ^ L := Nat.mul_le_mul_right _ he
    _ = 2 ^ (L + n) := by rw [← Nat.pow_add, Nat.add_comm]

/-- A code of the fixed literal/length code has at most 9 bits (R73). -/
theorem fixedLitLenCode_le (s : Nat) : (fixedLitLenCode s).1 ≤ 9 := by
  unfold fixedLitLenCode; split_ifs <;> simp

/-- A LIT row of the fixed code. -/
theorem of_literal {i : Instr} {v : BitVec 8} (h : i.fixedLiteral = some v) : Statement i := by
  intro _
  have := fixedLitLenCode_le v.toNat
  simp only [encode, h]
  exact encodeCode_fits _ _ _ _ (by omega) (by decide)

/-- A LEN row of the fixed code. -/
theorem of_length {i : Instr} {p : Nat × Nat} (h₀ : i.fixedLiteral = none) (h : i.fixedLength = some p)
    (he : p.2 < 2 ^ lengthExtraBits p.1) : Statement i := by
  intro _
  have := fixedLitLenCode_le (257 + p.1)
  have := lengthExtraBits_le p.1
  simp only [encode, h₀, h]
  exact encodeCode_fits _ _ _ _ (by omega) he

/-- A DIST row of the fixed code. -/
theorem of_distance {i : Instr} {p : Nat × Nat} (h₀ : i.fixedLiteral = none) (h₁ : i.fixedLength = none)
    (h : i.fixedDistance = some p) (he : p.2 < 2 ^ distanceExtraBits p.1) : Statement i := by
  intro _
  have := distanceExtraBits_le p.1
  simp only [encode, h₀, h₁, h]
  exact encodeCode_fits _ _ _ _ (by omega) he

/-- A CL row. -/
theorem of_clSymbol {i : Instr} {p : Nat × Nat} (h₀ : i.fixedLiteral = none) (h₁ : i.fixedLength = none)
    (h₂ : i.fixedDistance = none) (h : i.clSymbol = some p) (hs : p.1 < 288) (hn : clExtraBits p.1 ≤ 13)
    (he : p.2 < 2 ^ clExtraBits p.1) : Statement i := by
  intro _
  simp only [encode, h₀, h₁, h₂, h]
  exact ⟨hs, hn, he⟩

/-- Every other row. -/
theorem of_other {i : Instr} (h₀ : i.fixedLiteral = none) (h₁ : i.fixedLength = none) (h₂ : i.fixedDistance = none)
    (h₃ : i.clSymbol = none) (h : i.wellFormed = true → Fits (encodeOther i)) : Statement i := by
  intro hw
  simp only [encode, h₀, h₁, h₂, h₃]
  exact h hw

/-- A block header fits its three bits. -/
theorem block_fits (f : BitVec 1) (t : Nat) (ht : t ≤ 3) : Fits (.bits 3 (f.toNat + t * 2)) := by
  have := f.isLt
  exact ⟨by decide, by omega⟩

theorem zhdr (cmf flg : BitVec 8) : Statement (.zhdr cmf flg) := of_other rfl rfl rfl rfl fun _ => show 2 ≤ 4 by decide
theorem blockStored (bfinal : BitVec 1) : Statement (.blockStored bfinal) := of_other rfl rfl rfl rfl fun _ => block_fits bfinal 0 (by decide)
theorem blockFixed (bfinal : BitVec 1) : Statement (.blockFixed bfinal) := of_other rfl rfl rfl rfl fun _ => block_fits bfinal 1 (by decide)
theorem blockDynamic (bfinal : BitVec 1) : Statement (.blockDynamic bfinal) := of_other rfl rfl rfl rfl fun _ => block_fits bfinal 2 (by decide)
theorem blockReserved (bfinal : BitVec 1) : Statement (.blockReserved bfinal) := of_other rfl rfl rfl rfl fun _ => block_fits bfinal 3 (by decide)
theorem lenNlen (len nlen : BitVec 16) : Statement (.lenNlen len nlen) := of_other rfl rfl rfl rfl fun _ => show 4 ≤ 4 by decide
theorem data (b : BitVec 8) : Statement (.data b) := of_other rfl rfl rfl rfl fun _ => show 1 ≤ 4 by decide
theorem dyn (hlit hdist : BitVec 5) (hclen : BitVec 4) : Statement (.dyn hlit hdist hclen) := of_other rfl rfl rfl rfl fun _ => by
  have h₁ := hlit.isLt; have h₂ := hdist.isLt; have h₃ := hclen.isLt
  show 14 ≤ 31 ∧ hlit.toNat + hdist.toNat * 2 ^ 5 + hclen.toNat * 2 ^ 10 < 2 ^ 14
  omega
theorem cll (l : BitVec 3) : Statement (.cll l) := of_other rfl rfl rfl rfl fun _ => ⟨by decide, l.isLt⟩
theorem cl16 (e : BitVec 2) : Statement (.cl16 e) := of_clSymbol rfl rfl rfl rfl (by simp) (show _ ≤ 13 by simp [clExtraBits]) (e.isLt)
theorem cl17 (e : BitVec 3) : Statement (.cl17 e) := of_clSymbol rfl rfl rfl rfl (by simp) (show _ ≤ 13 by simp [clExtraBits]) (e.isLt)
theorem cl18 (e : BitVec 7) : Statement (.cl18 e) := of_clSymbol rfl rfl rfl rfl (by simp) (show _ ≤ 13 by simp [clExtraBits]) (e.isLt)
theorem len265 (e : BitVec 1) : Statement (.len265 e) := of_length rfl rfl (e.isLt)
theorem len266 (e : BitVec 1) : Statement (.len266 e) := of_length rfl rfl (e.isLt)
theorem len267 (e : BitVec 1) : Statement (.len267 e) := of_length rfl rfl (e.isLt)
theorem len268 (e : BitVec 1) : Statement (.len268 e) := of_length rfl rfl (e.isLt)
theorem len269 (e : BitVec 2) : Statement (.len269 e) := of_length rfl rfl (e.isLt)
theorem len270 (e : BitVec 2) : Statement (.len270 e) := of_length rfl rfl (e.isLt)
theorem len271 (e : BitVec 2) : Statement (.len271 e) := of_length rfl rfl (e.isLt)
theorem len272 (e : BitVec 2) : Statement (.len272 e) := of_length rfl rfl (e.isLt)
theorem len273 (e : BitVec 3) : Statement (.len273 e) := of_length rfl rfl (e.isLt)
theorem len274 (e : BitVec 3) : Statement (.len274 e) := of_length rfl rfl (e.isLt)
theorem len275 (e : BitVec 3) : Statement (.len275 e) := of_length rfl rfl (e.isLt)
theorem len276 (e : BitVec 3) : Statement (.len276 e) := of_length rfl rfl (e.isLt)
theorem len277 (e : BitVec 4) : Statement (.len277 e) := of_length rfl rfl (e.isLt)
theorem len278 (e : BitVec 4) : Statement (.len278 e) := of_length rfl rfl (e.isLt)
theorem len279 (e : BitVec 4) : Statement (.len279 e) := of_length rfl rfl (e.isLt)
theorem len280 (e : BitVec 4) : Statement (.len280 e) := of_length rfl rfl (e.isLt)
theorem len281 (e : BitVec 5) : Statement (.len281 e) := of_length rfl rfl (e.isLt)
theorem len282 (e : BitVec 5) : Statement (.len282 e) := of_length rfl rfl (e.isLt)
theorem len283 (e : BitVec 5) : Statement (.len283 e) := of_length rfl rfl (e.isLt)
theorem len284 (e : BitVec 5) : Statement (.len284 e) := of_length rfl rfl (e.isLt)
theorem dist4 (e : BitVec 1) : Statement (.dist4 e) := of_distance rfl rfl rfl (e.isLt)
theorem dist5 (e : BitVec 1) : Statement (.dist5 e) := of_distance rfl rfl rfl (e.isLt)
theorem dist6 (e : BitVec 2) : Statement (.dist6 e) := of_distance rfl rfl rfl (e.isLt)
theorem dist7 (e : BitVec 2) : Statement (.dist7 e) := of_distance rfl rfl rfl (e.isLt)
theorem dist8 (e : BitVec 3) : Statement (.dist8 e) := of_distance rfl rfl rfl (e.isLt)
theorem dist9 (e : BitVec 3) : Statement (.dist9 e) := of_distance rfl rfl rfl (e.isLt)
theorem dist10 (e : BitVec 4) : Statement (.dist10 e) := of_distance rfl rfl rfl (e.isLt)
theorem dist11 (e : BitVec 4) : Statement (.dist11 e) := of_distance rfl rfl rfl (e.isLt)
theorem dist12 (e : BitVec 5) : Statement (.dist12 e) := of_distance rfl rfl rfl (e.isLt)
theorem dist13 (e : BitVec 5) : Statement (.dist13 e) := of_distance rfl rfl rfl (e.isLt)
theorem dist14 (e : BitVec 6) : Statement (.dist14 e) := of_distance rfl rfl rfl (e.isLt)
theorem dist15 (e : BitVec 6) : Statement (.dist15 e) := of_distance rfl rfl rfl (e.isLt)
theorem dist16 (e : BitVec 7) : Statement (.dist16 e) := of_distance rfl rfl rfl (e.isLt)
theorem dist17 (e : BitVec 7) : Statement (.dist17 e) := of_distance rfl rfl rfl (e.isLt)
theorem dist18 (e : BitVec 8) : Statement (.dist18 e) := of_distance rfl rfl rfl (e.isLt)
theorem dist19 (e : BitVec 8) : Statement (.dist19 e) := of_distance rfl rfl rfl (e.isLt)
theorem dist20 (e : BitVec 9) : Statement (.dist20 e) := of_distance rfl rfl rfl (e.isLt)
theorem dist21 (e : BitVec 9) : Statement (.dist21 e) := of_distance rfl rfl rfl (e.isLt)
theorem dist22 (e : BitVec 10) : Statement (.dist22 e) := of_distance rfl rfl rfl (e.isLt)
theorem dist23 (e : BitVec 10) : Statement (.dist23 e) := of_distance rfl rfl rfl (e.isLt)
theorem dist24 (e : BitVec 11) : Statement (.dist24 e) := of_distance rfl rfl rfl (e.isLt)
theorem dist25 (e : BitVec 11) : Statement (.dist25 e) := of_distance rfl rfl rfl (e.isLt)
theorem dist26 (e : BitVec 12) : Statement (.dist26 e) := of_distance rfl rfl rfl (e.isLt)
theorem dist27 (e : BitVec 12) : Statement (.dist27 e) := of_distance rfl rfl rfl (e.isLt)
theorem dist28 (e : BitVec 13) : Statement (.dist28 e) := of_distance rfl rfl rfl (e.isLt)
theorem dist29 (e : BitVec 13) : Statement (.dist29 e) := of_distance rfl rfl rfl (e.isLt)
theorem litDyn (v : BitVec 8) : Statement (.litDyn v) := of_other rfl rfl rfl rfl fun _ => ⟨lt_trans v.isLt (by decide), by decide, by decide⟩
theorem lenDyn (idx e : BitVec 5) : Statement (.lenDyn idx e) := of_other rfl rfl rfl rfl fun h => by
  have h : idx.toNat ≤ 30 ∧ e.toNat < 2 ^ lengthExtraBits idx.toNat := by simpa [Instr.wellFormed] using h
  exact ⟨by omega, le_trans (lengthExtraBits_le _) (by decide), h.2⟩
theorem distDyn (d : BitVec 5) (e : BitVec 13) : Statement (.distDyn d e) := of_other rfl rfl rfl rfl fun h => by
  have h : d.toNat ≤ 29 ∧ e.toNat < 2 ^ distanceExtraBits d.toNat := by simpa [Instr.wellFormed] using h
  exact ⟨by omega, distanceExtraBits_le _, h.2⟩
theorem distInvalid (d : BitVec 5) : Statement (.distInvalid d) := of_other rfl rfl rfl rfl fun _ => ⟨lt_trans d.isLt (by decide), by decide, by decide⟩
theorem trailer (w : BitVec 32) : Statement (.trailer w) := of_other rfl rfl rfl rfl fun _ => show 4 ≤ 4 by decide
theorem start (v : BitVec 32) : Statement (.start v) := of_other rfl rfl rfl rfl fun _ => ⟨by decide, by decide⟩
theorem abort (v : BitVec 32) : Statement (.abort v) := of_other rfl rfl rfl rfl fun _ => ⟨by decide, by decide⟩
theorem config (v : BitVec 32) : Statement (.config v) := of_other rfl rfl rfl rfl fun _ => ⟨by decide, by decide⟩
theorem clear (v : BitVec 32) : Statement (.clear v) := of_other rfl rfl rfl rfl fun _ => ⟨by decide, by decide⟩
theorem setIndex (v : BitVec 32) : Statement (.setIndex v) := of_other rfl rfl rfl rfl fun _ => ⟨by decide, by decide⟩
theorem setInLen (v : BitVec 32) : Statement (.setInLen v) := of_other rfl rfl rfl rfl fun _ => ⟨by decide, by decide⟩
theorem setBufSize (v : BitVec 32) : Statement (.setBufSize v) := of_other rfl rfl rfl rfl fun _ => ⟨by decide, by decide⟩
theorem writeIgnored (off : BitVec 8) (v : BitVec 32) : Statement (.writeIgnored off v) := of_other rfl rfl rfl rfl fun h => by
  have h : off.toNat % 4 = 0 ∧ 0x14 ≤ off.toNat := by simpa [Instr.wellFormed] using h
  exact ⟨off.isLt, h.1⟩
theorem readReg (off : BitVec 8) : Statement (.readReg off) := of_other rfl rfl rfl rfl fun h => ⟨off.isLt, by simpa [Instr.wellFormed] using h⟩
theorem inAccess (a : MemAccess) : Statement (.inAccess a) := of_other rfl rfl rfl rfl fun h => show a.offset % a.width.bytes = 0 by simpa [Instr.wellFormed] using h
theorem outAccess (a : MemAccess) : Statement (.outAccess a) := of_other rfl rfl rfl rfl fun h => show a.offset % a.width.bytes = 0 by simpa [Instr.wellFormed] using h
theorem cl0 : Statement .cl0 := of_clSymbol rfl rfl rfl rfl (by simp) (show _ ≤ 13 by simp [clExtraBits]) (by decide)
theorem cl1 : Statement .cl1 := of_clSymbol rfl rfl rfl rfl (by simp) (show _ ≤ 13 by simp [clExtraBits]) (by decide)
theorem cl2 : Statement .cl2 := of_clSymbol rfl rfl rfl rfl (by simp) (show _ ≤ 13 by simp [clExtraBits]) (by decide)
theorem cl3 : Statement .cl3 := of_clSymbol rfl rfl rfl rfl (by simp) (show _ ≤ 13 by simp [clExtraBits]) (by decide)
theorem cl4 : Statement .cl4 := of_clSymbol rfl rfl rfl rfl (by simp) (show _ ≤ 13 by simp [clExtraBits]) (by decide)
theorem cl5 : Statement .cl5 := of_clSymbol rfl rfl rfl rfl (by simp) (show _ ≤ 13 by simp [clExtraBits]) (by decide)
theorem cl6 : Statement .cl6 := of_clSymbol rfl rfl rfl rfl (by simp) (show _ ≤ 13 by simp [clExtraBits]) (by decide)
theorem cl7 : Statement .cl7 := of_clSymbol rfl rfl rfl rfl (by simp) (show _ ≤ 13 by simp [clExtraBits]) (by decide)
theorem cl8 : Statement .cl8 := of_clSymbol rfl rfl rfl rfl (by simp) (show _ ≤ 13 by simp [clExtraBits]) (by decide)
theorem cl9 : Statement .cl9 := of_clSymbol rfl rfl rfl rfl (by simp) (show _ ≤ 13 by simp [clExtraBits]) (by decide)
theorem cl10 : Statement .cl10 := of_clSymbol rfl rfl rfl rfl (by simp) (show _ ≤ 13 by simp [clExtraBits]) (by decide)
theorem cl11 : Statement .cl11 := of_clSymbol rfl rfl rfl rfl (by simp) (show _ ≤ 13 by simp [clExtraBits]) (by decide)
theorem cl12 : Statement .cl12 := of_clSymbol rfl rfl rfl rfl (by simp) (show _ ≤ 13 by simp [clExtraBits]) (by decide)
theorem cl13 : Statement .cl13 := of_clSymbol rfl rfl rfl rfl (by simp) (show _ ≤ 13 by simp [clExtraBits]) (by decide)
theorem cl14 : Statement .cl14 := of_clSymbol rfl rfl rfl rfl (by simp) (show _ ≤ 13 by simp [clExtraBits]) (by decide)
theorem cl15 : Statement .cl15 := of_clSymbol rfl rfl rfl rfl (by simp) (show _ ≤ 13 by simp [clExtraBits]) (by decide)
theorem lit00 : Statement .lit00 := of_literal rfl
theorem lit01 : Statement .lit01 := of_literal rfl
theorem lit02 : Statement .lit02 := of_literal rfl
theorem lit03 : Statement .lit03 := of_literal rfl
theorem lit04 : Statement .lit04 := of_literal rfl
theorem lit05 : Statement .lit05 := of_literal rfl
theorem lit06 : Statement .lit06 := of_literal rfl
theorem lit07 : Statement .lit07 := of_literal rfl
theorem lit08 : Statement .lit08 := of_literal rfl
theorem lit09 : Statement .lit09 := of_literal rfl
theorem lit0A : Statement .lit0A := of_literal rfl
theorem lit0B : Statement .lit0B := of_literal rfl
theorem lit0C : Statement .lit0C := of_literal rfl
theorem lit0D : Statement .lit0D := of_literal rfl
theorem lit0E : Statement .lit0E := of_literal rfl
theorem lit0F : Statement .lit0F := of_literal rfl
theorem lit10 : Statement .lit10 := of_literal rfl
theorem lit11 : Statement .lit11 := of_literal rfl
theorem lit12 : Statement .lit12 := of_literal rfl
theorem lit13 : Statement .lit13 := of_literal rfl
theorem lit14 : Statement .lit14 := of_literal rfl
theorem lit15 : Statement .lit15 := of_literal rfl
theorem lit16 : Statement .lit16 := of_literal rfl
theorem lit17 : Statement .lit17 := of_literal rfl
theorem lit18 : Statement .lit18 := of_literal rfl
theorem lit19 : Statement .lit19 := of_literal rfl
theorem lit1A : Statement .lit1A := of_literal rfl
theorem lit1B : Statement .lit1B := of_literal rfl
theorem lit1C : Statement .lit1C := of_literal rfl
theorem lit1D : Statement .lit1D := of_literal rfl
theorem lit1E : Statement .lit1E := of_literal rfl
theorem lit1F : Statement .lit1F := of_literal rfl
theorem lit20 : Statement .lit20 := of_literal rfl
theorem lit21 : Statement .lit21 := of_literal rfl
theorem lit22 : Statement .lit22 := of_literal rfl
theorem lit23 : Statement .lit23 := of_literal rfl
theorem lit24 : Statement .lit24 := of_literal rfl
theorem lit25 : Statement .lit25 := of_literal rfl
theorem lit26 : Statement .lit26 := of_literal rfl
theorem lit27 : Statement .lit27 := of_literal rfl
theorem lit28 : Statement .lit28 := of_literal rfl
theorem lit29 : Statement .lit29 := of_literal rfl
theorem lit2A : Statement .lit2A := of_literal rfl
theorem lit2B : Statement .lit2B := of_literal rfl
theorem lit2C : Statement .lit2C := of_literal rfl
theorem lit2D : Statement .lit2D := of_literal rfl
theorem lit2E : Statement .lit2E := of_literal rfl
theorem lit2F : Statement .lit2F := of_literal rfl
theorem lit30 : Statement .lit30 := of_literal rfl
theorem lit31 : Statement .lit31 := of_literal rfl
theorem lit32 : Statement .lit32 := of_literal rfl
theorem lit33 : Statement .lit33 := of_literal rfl
theorem lit34 : Statement .lit34 := of_literal rfl
theorem lit35 : Statement .lit35 := of_literal rfl
theorem lit36 : Statement .lit36 := of_literal rfl
theorem lit37 : Statement .lit37 := of_literal rfl
theorem lit38 : Statement .lit38 := of_literal rfl
theorem lit39 : Statement .lit39 := of_literal rfl
theorem lit3A : Statement .lit3A := of_literal rfl
theorem lit3B : Statement .lit3B := of_literal rfl
theorem lit3C : Statement .lit3C := of_literal rfl
theorem lit3D : Statement .lit3D := of_literal rfl
theorem lit3E : Statement .lit3E := of_literal rfl
theorem lit3F : Statement .lit3F := of_literal rfl
theorem lit40 : Statement .lit40 := of_literal rfl
theorem lit41 : Statement .lit41 := of_literal rfl
theorem lit42 : Statement .lit42 := of_literal rfl
theorem lit43 : Statement .lit43 := of_literal rfl
theorem lit44 : Statement .lit44 := of_literal rfl
theorem lit45 : Statement .lit45 := of_literal rfl
theorem lit46 : Statement .lit46 := of_literal rfl
theorem lit47 : Statement .lit47 := of_literal rfl
theorem lit48 : Statement .lit48 := of_literal rfl
theorem lit49 : Statement .lit49 := of_literal rfl
theorem lit4A : Statement .lit4A := of_literal rfl
theorem lit4B : Statement .lit4B := of_literal rfl
theorem lit4C : Statement .lit4C := of_literal rfl
theorem lit4D : Statement .lit4D := of_literal rfl
theorem lit4E : Statement .lit4E := of_literal rfl
theorem lit4F : Statement .lit4F := of_literal rfl
theorem lit50 : Statement .lit50 := of_literal rfl
theorem lit51 : Statement .lit51 := of_literal rfl
theorem lit52 : Statement .lit52 := of_literal rfl
theorem lit53 : Statement .lit53 := of_literal rfl
theorem lit54 : Statement .lit54 := of_literal rfl
theorem lit55 : Statement .lit55 := of_literal rfl
theorem lit56 : Statement .lit56 := of_literal rfl
theorem lit57 : Statement .lit57 := of_literal rfl
theorem lit58 : Statement .lit58 := of_literal rfl
theorem lit59 : Statement .lit59 := of_literal rfl
theorem lit5A : Statement .lit5A := of_literal rfl
theorem lit5B : Statement .lit5B := of_literal rfl
theorem lit5C : Statement .lit5C := of_literal rfl
theorem lit5D : Statement .lit5D := of_literal rfl
theorem lit5E : Statement .lit5E := of_literal rfl
theorem lit5F : Statement .lit5F := of_literal rfl
theorem lit60 : Statement .lit60 := of_literal rfl
theorem lit61 : Statement .lit61 := of_literal rfl
theorem lit62 : Statement .lit62 := of_literal rfl
theorem lit63 : Statement .lit63 := of_literal rfl
theorem lit64 : Statement .lit64 := of_literal rfl
theorem lit65 : Statement .lit65 := of_literal rfl
theorem lit66 : Statement .lit66 := of_literal rfl
theorem lit67 : Statement .lit67 := of_literal rfl
theorem lit68 : Statement .lit68 := of_literal rfl
theorem lit69 : Statement .lit69 := of_literal rfl
theorem lit6A : Statement .lit6A := of_literal rfl
theorem lit6B : Statement .lit6B := of_literal rfl
theorem lit6C : Statement .lit6C := of_literal rfl
theorem lit6D : Statement .lit6D := of_literal rfl
theorem lit6E : Statement .lit6E := of_literal rfl
theorem lit6F : Statement .lit6F := of_literal rfl
theorem lit70 : Statement .lit70 := of_literal rfl
theorem lit71 : Statement .lit71 := of_literal rfl
theorem lit72 : Statement .lit72 := of_literal rfl
theorem lit73 : Statement .lit73 := of_literal rfl
theorem lit74 : Statement .lit74 := of_literal rfl
theorem lit75 : Statement .lit75 := of_literal rfl
theorem lit76 : Statement .lit76 := of_literal rfl
theorem lit77 : Statement .lit77 := of_literal rfl
theorem lit78 : Statement .lit78 := of_literal rfl
theorem lit79 : Statement .lit79 := of_literal rfl
theorem lit7A : Statement .lit7A := of_literal rfl
theorem lit7B : Statement .lit7B := of_literal rfl
theorem lit7C : Statement .lit7C := of_literal rfl
theorem lit7D : Statement .lit7D := of_literal rfl
theorem lit7E : Statement .lit7E := of_literal rfl
theorem lit7F : Statement .lit7F := of_literal rfl
theorem lit80 : Statement .lit80 := of_literal rfl
theorem lit81 : Statement .lit81 := of_literal rfl
theorem lit82 : Statement .lit82 := of_literal rfl
theorem lit83 : Statement .lit83 := of_literal rfl
theorem lit84 : Statement .lit84 := of_literal rfl
theorem lit85 : Statement .lit85 := of_literal rfl
theorem lit86 : Statement .lit86 := of_literal rfl
theorem lit87 : Statement .lit87 := of_literal rfl
theorem lit88 : Statement .lit88 := of_literal rfl
theorem lit89 : Statement .lit89 := of_literal rfl
theorem lit8A : Statement .lit8A := of_literal rfl
theorem lit8B : Statement .lit8B := of_literal rfl
theorem lit8C : Statement .lit8C := of_literal rfl
theorem lit8D : Statement .lit8D := of_literal rfl
theorem lit8E : Statement .lit8E := of_literal rfl
theorem lit8F : Statement .lit8F := of_literal rfl
theorem lit90 : Statement .lit90 := of_literal rfl
theorem lit91 : Statement .lit91 := of_literal rfl
theorem lit92 : Statement .lit92 := of_literal rfl
theorem lit93 : Statement .lit93 := of_literal rfl
theorem lit94 : Statement .lit94 := of_literal rfl
theorem lit95 : Statement .lit95 := of_literal rfl
theorem lit96 : Statement .lit96 := of_literal rfl
theorem lit97 : Statement .lit97 := of_literal rfl
theorem lit98 : Statement .lit98 := of_literal rfl
theorem lit99 : Statement .lit99 := of_literal rfl
theorem lit9A : Statement .lit9A := of_literal rfl
theorem lit9B : Statement .lit9B := of_literal rfl
theorem lit9C : Statement .lit9C := of_literal rfl
theorem lit9D : Statement .lit9D := of_literal rfl
theorem lit9E : Statement .lit9E := of_literal rfl
theorem lit9F : Statement .lit9F := of_literal rfl
theorem litA0 : Statement .litA0 := of_literal rfl
theorem litA1 : Statement .litA1 := of_literal rfl
theorem litA2 : Statement .litA2 := of_literal rfl
theorem litA3 : Statement .litA3 := of_literal rfl
theorem litA4 : Statement .litA4 := of_literal rfl
theorem litA5 : Statement .litA5 := of_literal rfl
theorem litA6 : Statement .litA6 := of_literal rfl
theorem litA7 : Statement .litA7 := of_literal rfl
theorem litA8 : Statement .litA8 := of_literal rfl
theorem litA9 : Statement .litA9 := of_literal rfl
theorem litAA : Statement .litAA := of_literal rfl
theorem litAB : Statement .litAB := of_literal rfl
theorem litAC : Statement .litAC := of_literal rfl
theorem litAD : Statement .litAD := of_literal rfl
theorem litAE : Statement .litAE := of_literal rfl
theorem litAF : Statement .litAF := of_literal rfl
theorem litB0 : Statement .litB0 := of_literal rfl
theorem litB1 : Statement .litB1 := of_literal rfl
theorem litB2 : Statement .litB2 := of_literal rfl
theorem litB3 : Statement .litB3 := of_literal rfl
theorem litB4 : Statement .litB4 := of_literal rfl
theorem litB5 : Statement .litB5 := of_literal rfl
theorem litB6 : Statement .litB6 := of_literal rfl
theorem litB7 : Statement .litB7 := of_literal rfl
theorem litB8 : Statement .litB8 := of_literal rfl
theorem litB9 : Statement .litB9 := of_literal rfl
theorem litBA : Statement .litBA := of_literal rfl
theorem litBB : Statement .litBB := of_literal rfl
theorem litBC : Statement .litBC := of_literal rfl
theorem litBD : Statement .litBD := of_literal rfl
theorem litBE : Statement .litBE := of_literal rfl
theorem litBF : Statement .litBF := of_literal rfl
theorem litC0 : Statement .litC0 := of_literal rfl
theorem litC1 : Statement .litC1 := of_literal rfl
theorem litC2 : Statement .litC2 := of_literal rfl
theorem litC3 : Statement .litC3 := of_literal rfl
theorem litC4 : Statement .litC4 := of_literal rfl
theorem litC5 : Statement .litC5 := of_literal rfl
theorem litC6 : Statement .litC6 := of_literal rfl
theorem litC7 : Statement .litC7 := of_literal rfl
theorem litC8 : Statement .litC8 := of_literal rfl
theorem litC9 : Statement .litC9 := of_literal rfl
theorem litCA : Statement .litCA := of_literal rfl
theorem litCB : Statement .litCB := of_literal rfl
theorem litCC : Statement .litCC := of_literal rfl
theorem litCD : Statement .litCD := of_literal rfl
theorem litCE : Statement .litCE := of_literal rfl
theorem litCF : Statement .litCF := of_literal rfl
theorem litD0 : Statement .litD0 := of_literal rfl
theorem litD1 : Statement .litD1 := of_literal rfl
theorem litD2 : Statement .litD2 := of_literal rfl
theorem litD3 : Statement .litD3 := of_literal rfl
theorem litD4 : Statement .litD4 := of_literal rfl
theorem litD5 : Statement .litD5 := of_literal rfl
theorem litD6 : Statement .litD6 := of_literal rfl
theorem litD7 : Statement .litD7 := of_literal rfl
theorem litD8 : Statement .litD8 := of_literal rfl
theorem litD9 : Statement .litD9 := of_literal rfl
theorem litDA : Statement .litDA := of_literal rfl
theorem litDB : Statement .litDB := of_literal rfl
theorem litDC : Statement .litDC := of_literal rfl
theorem litDD : Statement .litDD := of_literal rfl
theorem litDE : Statement .litDE := of_literal rfl
theorem litDF : Statement .litDF := of_literal rfl
theorem litE0 : Statement .litE0 := of_literal rfl
theorem litE1 : Statement .litE1 := of_literal rfl
theorem litE2 : Statement .litE2 := of_literal rfl
theorem litE3 : Statement .litE3 := of_literal rfl
theorem litE4 : Statement .litE4 := of_literal rfl
theorem litE5 : Statement .litE5 := of_literal rfl
theorem litE6 : Statement .litE6 := of_literal rfl
theorem litE7 : Statement .litE7 := of_literal rfl
theorem litE8 : Statement .litE8 := of_literal rfl
theorem litE9 : Statement .litE9 := of_literal rfl
theorem litEA : Statement .litEA := of_literal rfl
theorem litEB : Statement .litEB := of_literal rfl
theorem litEC : Statement .litEC := of_literal rfl
theorem litED : Statement .litED := of_literal rfl
theorem litEE : Statement .litEE := of_literal rfl
theorem litEF : Statement .litEF := of_literal rfl
theorem litF0 : Statement .litF0 := of_literal rfl
theorem litF1 : Statement .litF1 := of_literal rfl
theorem litF2 : Statement .litF2 := of_literal rfl
theorem litF3 : Statement .litF3 := of_literal rfl
theorem litF4 : Statement .litF4 := of_literal rfl
theorem litF5 : Statement .litF5 := of_literal rfl
theorem litF6 : Statement .litF6 := of_literal rfl
theorem litF7 : Statement .litF7 := of_literal rfl
theorem litF8 : Statement .litF8 := of_literal rfl
theorem litF9 : Statement .litF9 := of_literal rfl
theorem litFA : Statement .litFA := of_literal rfl
theorem litFB : Statement .litFB := of_literal rfl
theorem litFC : Statement .litFC := of_literal rfl
theorem litFD : Statement .litFD := of_literal rfl
theorem litFE : Statement .litFE := of_literal rfl
theorem litFF : Statement .litFF := of_literal rfl
theorem eob : Statement .eob := of_other rfl rfl rfl rfl fun _ => encodeCode_fits 7 0 0 0 (by decide) (by decide)
theorem len257 : Statement .len257 := of_length rfl rfl (by decide)
theorem len258 : Statement .len258 := of_length rfl rfl (by decide)
theorem len259 : Statement .len259 := of_length rfl rfl (by decide)
theorem len260 : Statement .len260 := of_length rfl rfl (by decide)
theorem len261 : Statement .len261 := of_length rfl rfl (by decide)
theorem len262 : Statement .len262 := of_length rfl rfl (by decide)
theorem len263 : Statement .len263 := of_length rfl rfl (by decide)
theorem len264 : Statement .len264 := of_length rfl rfl (by decide)
theorem len285 : Statement .len285 := of_length rfl rfl (by decide)
theorem len286 : Statement .len286 := of_length rfl rfl (by decide)
theorem len287 : Statement .len287 := of_length rfl rfl (by decide)
theorem dist0 : Statement .dist0 := of_distance rfl rfl rfl (by decide)
theorem dist1 : Statement .dist1 := of_distance rfl rfl rfl (by decide)
theorem dist2 : Statement .dist2 := of_distance rfl rfl rfl (by decide)
theorem dist3 : Statement .dist3 := of_distance rfl rfl rfl (by decide)
theorem distInvalid11110 : Statement .distInvalid11110 := of_other rfl rfl rfl rfl fun _ => encodeCode_fits 5 30 0 0 (by decide) (by decide)
theorem distInvalid11111 : Statement .distInvalid11111 := of_other rfl rfl rfl rfl fun _ => encodeCode_fits 5 31 0 0 (by decide) (by decide)
theorem eobDyn : Statement .eobDyn := of_other rfl rfl rfl rfl fun _ => ⟨by decide, by decide, by decide⟩
theorem startStep : Statement .startStep := of_other rfl rfl rfl rfl fun _ => trivial
theorem dynbuild : Statement .dynbuild := of_other rfl rfl rfl rfl fun _ => trivial
theorem finish : Statement .finish := of_other rfl rfl rfl rfl fun _ => trivial
theorem rst : Statement .rst := of_other rfl rfl rfl rfl fun _ => trivial

end Sys2Proof.Laws.EncodingFits
end

