-- ==== Sys2Proof/Laws/Reader.lean ====
section
/-! SUPPORT. The laws of the bit reader (40_bitreader.md): one lemma per operation that says everything it can do. -/

namespace Sys2Proof.Machine

/-! ## One refill, one consumption, the alignment and the rewind -/

/-- A bit of the accumulator after a refill is the old bit, or above the old bits a bit of the new byte (R90). -/
theorem Reader.refill_testBit (r : Reader) (b : Byte) (i : Nat) (h : r.buf < 2 ^ r.cnt) :
    (r.refill b).buf.testBit i = if i < r.cnt then r.buf.testBit i else b.getLsbD (i - r.cnt) := by
  simp only [Reader.refill, Nat.testBit_or, Nat.testBit_shiftLeft]
  split_ifs with hi
  · simp [show ¬ r.cnt ≤ i by omega]
  · rw [Nat.testBit_lt_two_pow (lt_of_lt_of_le h (Nat.pow_le_pow_right (by omega) (by omega)))]
    simp [show r.cnt ≤ i by omega, BitVec.testBit_toNat]

theorem Reader.refill_lt (r : Reader) (b : Byte) (h : r.buf < 2 ^ r.cnt) : (r.refill b).buf < 2 ^ (r.refill b).cnt := by
  simp only [Reader.refill]
  apply Nat.or_lt_two_pow
  · exact lt_of_lt_of_le h (Nat.pow_le_pow_right (by omega) (by omega))
  · rw [Nat.shiftLeft_eq, Nat.pow_add, Nat.mul_comm]
    exact Nat.mul_lt_mul_of_pos_left b.isLt (by positivity)

/-- A refill keeps what the accumulator holds, and the bit position (R90). -/
theorem Reader.refill_holds {byte : Nat → Byte} {r : Reader} (h : r.Holds byte) :
    (r.refill (byte r.ip)).Holds byte ∧ (r.refill (byte r.ip)).bitPos = r.bitPos := by
  obtain ⟨h₁, h₂, h₃⟩ := h
  have hp : (r.refill (byte r.ip)).bitPos = r.bitPos := by simp only [Reader.bitPos, Reader.refill]; omega
  refine ⟨⟨by simp only [Reader.refill]; omega, r.refill_lt _ h₂, fun i hi => ?_⟩, hp⟩
  rw [hp, Reader.refill_testBit _ _ _ h₂]
  split_ifs with hlt
  · exact h₃ i hlt
  · simp only [Reader.refill] at hi
    have e : r.bitPos + i = 8 * r.ip + (i - r.cnt) := by simp only [Reader.bitPos]; omega
    rw [streamBit, e]
    congr 2 <;> omega

/-- Taking n buffered bits moves the bit position by n (R91). -/
theorem Reader.consume_holds {byte : Nat → Byte} {r : Reader} (h : r.Holds byte) {n : Nat} (hn : n ≤ r.cnt) :
    (r.consume n).Holds byte ∧ (r.consume n).bitPos = r.bitPos + n := by
  obtain ⟨h₁, h₂, h₃⟩ := h
  have hp : (r.consume n).bitPos = r.bitPos + n := by simp only [Reader.bitPos, Reader.consume]; omega
  refine ⟨⟨by simp only [Reader.consume]; omega, ?_, fun i hi => ?_⟩, hp⟩
  · simp only [Reader.consume, Nat.shiftRight_eq_div_pow]
    rw [Nat.div_lt_iff_lt_mul (by positivity), ← Nat.pow_add]
    exact lt_of_lt_of_le h₂ (Nat.pow_le_pow_right (by omega) (by omega))
  · simp only [Reader.consume] at hi
    rw [hp]
    simp only [Reader.consume, Nat.testBit_shiftRight]
    rw [h₃ (n + i) (by omega)]; congr 1; omega

/-- byteAlign leaves an empty accumulator (R93). -/
theorem Reader.byteAlign_holds (byte : Nat → Byte) (r : Reader) :
    r.byteAlign.Holds byte ∧ r.byteAlign.bitPos = 8 * r.ip := by
  simp [Reader.Holds, Reader.byteAlign, Reader.bitPos]

/-- The accumulator after eobRewind holds under 8 bits, IP steps back by the whole bytes given back (R94). -/
theorem Reader.eobRewind_bounds (r : Reader) :
    r.eobRewind.cnt < 8 ∧ r.eobRewind.ip = r.ip - r.cnt / 8 ∧ r.eobRewind.buf < 2 ^ r.eobRewind.cnt := by
  refine ⟨Nat.mod_lt _ (by omega), rfl, Nat.mod_lt _ (by positivity)⟩

/-! ## Refilling -/

/-- Everything the refill loop can do, on input bytes that exist below `len`. -/
theorem fillTo_ok {byte : Nat → Option Byte} {b : Nat → Byte} {len : Nat} (hb : ∀ a, a < len → byte a = some (b a)) (need : Nat) :
    ∀ (fuel : Nat) (r : Reader), r.Holds b → ∃ r', fillTo byte len need fuel r = .ok () r' ∧ r'.Holds b ∧
      r'.bitPos = r.bitPos ∧ r.ip ≤ r'.ip ∧ r'.ip ≤ Nat.max r.ip len ∧ (need ≤ r.cnt + 8 * fuel → need ≤ r'.cnt ∨ len ≤ r'.ip) ∧
      r.cnt ≤ r'.cnt ∧ (r'.cnt ≤ r.cnt ∨ r'.cnt < need + 8) ∧ (need ≤ r.cnt → r' = r)
  | 0, r, h => ⟨r, rfl, h, rfl, le_rfl, Nat.le_max_left _ _, fun h => Or.inl (by omega), le_rfl, Or.inl le_rfl, fun _ => rfl⟩
  | fuel + 1, r, h => by
    rw [fillTo]
    split_ifs with hc
    · obtain ⟨hh, hp⟩ := Reader.refill_holds h
      obtain ⟨r', e, k₁, k₂, k₃, k₄, k₅, k₆, k₇, k₈⟩ := fillTo_ok hb need fuel _ hh
      have hcnt : (r.refill (b r.ip)).cnt = r.cnt + 8 := rfl
      have hip : (r.refill (b r.ip)).ip = r.ip + 1 := rfl
      rw [hb _ hc.2]
      refine ⟨r', e, k₁, k₂.trans hp, by omega, ?_, fun h => k₅ (by omega), by omega, ?_, fun h => absurd h (by omega)⟩
      · rw [hip] at k₄; simp only [Nat.max_def] at k₄ ⊢; split_ifs at k₄ ⊢ <;> omega
      · rcases k₇ with k | k <;> omega
    · refine ⟨r, rfl, h, rfl, le_rfl, Nat.le_max_left _ _, fun _ => ?_, le_rfl, Or.inl le_rfl, fun _ => rfl⟩
      omega

/-! ## Reading -/

/-- The low bits of an accumulator are the next stream bits (10_state.md R22). -/
theorem Reader.Holds.testBit_mod {byte : Nat → Byte} {r : Reader} (h : r.Holds byte) {n i : Nat} (hn : n ≤ r.cnt) (hi : i < n) :
    (r.buf % 2 ^ n).testBit i = streamBit byte (r.bitPos + i) := by
  rw [Nat.testBit_mod_two_pow]; simp [hi, h.2.2 i (by omega)]

/-- Everything readCodeByTable can do, on input bytes that exist below `len` (R92). -/
theorem readCode_cases {byte : Nat → Option Byte} {b : Nat → Byte} {len : Nat} (hb : ∀ a, a < len → byte a = some (b a))
    (t : Table) (r : Reader) (h : r.Holds b) :
    ∃ r', fillTo byte len t.max.toNat t.max.toNat r = .ok () r' ∧ r'.Holds b ∧ r'.bitPos = r.bitPos ∧
      r'.ip ≤ Nat.max r.ip len ∧ (r'.cnt ≤ r.cnt ∨ r'.cnt < t.max.toNat + 8) ∧
      readCode byte len t r =
        if slotLen (t.select r') = 0 then .raise .invalidCode r'
        else if r'.cnt < slotLen (t.select r') then .raise .truncatedInput r'
        else .ok (slotSym (t.select r')) (r'.consume (slotLen (t.select r'))) := by
  obtain ⟨r', e, k₁, k₂, -, k₄, -, -, k₇, -⟩ := fillTo_ok hb t.max.toNat t.max.toNat r h
  exact ⟨r', e, k₁, k₂, k₄, k₇, by simp only [readCode, e]⟩

/-- readBits answers a value below 2^n, or raises TruncatedInput (R91). -/
theorem readBits_cases {byte : Nat → Option Byte} {b : Nat → Byte} {len : Nat} (hb : ∀ a, a < len → byte a = some (b a))
    (n : Nat) (r : Reader) (h : r.Holds b) :
    (∃ r', readBits byte len n r = .raise .truncatedInput r' ∧ r'.Holds b ∧ r'.cnt < n ∧ r'.bitPos = r.bitPos ∧
      len ≤ r'.ip ∧ r'.ip ≤ Nat.max r.ip len) ∨
    (∃ r' : Reader, r'.Holds b ∧ n ≤ r'.cnt ∧ r'.bitPos = r.bitPos ∧ r'.ip ≤ Nat.max r.ip len ∧ (r'.cnt ≤ r.cnt ∨ r'.cnt < n + 8) ∧
      readBits byte len n r = .ok (r'.buf % 2 ^ n) (r'.consume n)) := by
  obtain ⟨r', e, k₁, k₂, -, k₄, k₅, -, k₇, -⟩ := fillTo_ok hb n n r h
  by_cases hc : r'.cnt < n
  · refine .inl ⟨r', by simp [readBits, e, hc], k₁, hc, k₂, ?_, k₄⟩
    rcases k₅ (by omega) with k | k
    · omega
    · exact k
  · exact .inr ⟨r', k₁, by omega, k₂, k₄, k₇, by simp [readBits, e, hc]⟩

end Sys2Proof.Machine
end

