-- ==== Sys2Proof/Laws/State.lean ====
section
/-! SUPPORT. One lemma per field per named update of State, true by unfolding the update once, so that no later proof unfolds a record
update. -/

namespace Sys2Proof.Machine

/-! ## `State.setPend` -/

@[simp] theorem State.setPend_par (s : State) (p : Pending) : (s.setPend p).par = s.par := rfl
@[simp] theorem State.setPend_mode (s : State) (p : Pending) : (s.setPend p).mode = s.mode := rfl
@[simp] theorem State.setPend_verify (s : State) (p : Pending) : (s.setPend p).verify = s.verify := rfl
@[simp] theorem State.setPend_ie (s : State) (p : Pending) : (s.setPend p).ie = s.ie := rfl
@[simp] theorem State.setPend_done (s : State) (p : Pending) : (s.setPend p).done = s.done := rfl
@[simp] theorem State.setPend_err (s : State) (p : Pending) : (s.setPend p).err = s.err := rfl
@[simp] theorem State.setPend_errCode (s : State) (p : Pending) : (s.setPend p).errCode = s.errCode := rfl
@[simp] theorem State.setPend_index (s : State) (p : Pending) : (s.setPend p).index = s.index := rfl
@[simp] theorem State.setPend_inLen (s : State) (p : Pending) : (s.setPend p).inLen = s.inLen := rfl
@[simp] theorem State.setPend_bufSize (s : State) (p : Pending) : (s.setPend p).bufSize = s.bufSize := rfl
@[simp] theorem State.setPend_outLen (s : State) (p : Pending) : (s.setPend p).outLen = s.outLen := rfl
@[simp] theorem State.setPend_adler (s : State) (p : Pending) : (s.setPend p).adler = s.adler := rfl
@[simp] theorem State.setPend_trailer (s : State) (p : Pending) : (s.setPend p).trailer = s.trailer := rfl
@[simp] theorem State.setPend_errIp (s : State) (p : Pending) : (s.setPend p).errIp = s.errIp := rfl
@[simp] theorem State.setPend_errOp (s : State) (p : Pending) : (s.setPend p).errOp = s.errOp := rfl
@[simp] theorem State.setPend_fsm (s : State) (p : Pending) : (s.setPend p).fsm = s.fsm := rfl
@[simp] theorem State.setPend_ip (s : State) (p : Pending) : (s.setPend p).ip = s.ip := rfl
@[simp] theorem State.setPend_bitCnt (s : State) (p : Pending) : (s.setPend p).bitCnt = s.bitCnt := rfl
@[simp] theorem State.setPend_bitBuf (s : State) (p : Pending) : (s.setPend p).bitBuf = s.bitBuf := rfl
@[simp] theorem State.setPend_op (s : State) (p : Pending) : (s.setPend p).op = s.op := rfl
@[simp] theorem State.setPend_cap (s : State) (p : Pending) : (s.setPend p).cap = s.cap := rfl
@[simp] theorem State.setPend_bfinal (s : State) (p : Pending) : (s.setPend p).bfinal = s.bfinal := rfl
@[simp] theorem State.setPend_btype (s : State) (p : Pending) : (s.setPend p).btype = s.btype := rfl
@[simp] theorem State.setPend_hlit (s : State) (p : Pending) : (s.setPend p).hlit = s.hlit := rfl
@[simp] theorem State.setPend_hdist (s : State) (p : Pending) : (s.setPend p).hdist = s.hdist := rfl
@[simp] theorem State.setPend_hclen (s : State) (p : Pending) : (s.setPend p).hclen = s.hclen := rfl
@[simp] theorem State.setPend_clIdx (s : State) (p : Pending) : (s.setPend p).clIdx = s.clIdx := rfl
@[simp] theorem State.setPend_prev (s : State) (p : Pending) : (s.setPend p).prev = s.prev := rfl
@[simp] theorem State.setPend_clLen (s : State) (p : Pending) : (s.setPend p).clLen = s.clLen := rfl
@[simp] theorem State.setPend_lens (s : State) (p : Pending) : (s.setPend p).lens = s.lens := rfl
@[simp] theorem State.setPend_clt (s : State) (p : Pending) : (s.setPend p).clt = s.clt := rfl
@[simp] theorem State.setPend_litt (s : State) (p : Pending) : (s.setPend p).litt = s.litt := rfl
@[simp] theorem State.setPend_distt (s : State) (p : Pending) : (s.setPend p).distt = s.distt := rfl
@[simp] theorem State.setPend_inMem (s : State) (p : Pending) : (s.setPend p).inMem = s.inMem := rfl
@[simp] theorem State.setPend_outMem (s : State) (p : Pending) : (s.setPend p).outMem = s.outMem := rfl
@[simp] theorem State.setPend_pend (s : State) (p : Pending) : (s.setPend p).pend = p := rfl
@[simp] theorem State.setPend_refusedMark (s : State) (p : Pending) : (s.setPend p).refusedMark = s.refusedMark := rfl
@[simp] theorem State.setPend_readData (s : State) (p : Pending) : (s.setPend p).readData = s.readData := rfl
@[simp] theorem State.setPend_epoch (s : State) (p : Pending) : (s.setPend p).epoch = s.epoch := rfl
@[simp] theorem State.setPend_outDraw (s : State) (p : Pending) : (s.setPend p).outDraw = s.outDraw := rfl
@[simp] theorem State.setPend_script (s : State) (p : Pending) : (s.setPend p).script = s.script := rfl

/-! ## `State.goTo` -/

@[simp] theorem State.goTo_par (s : State) (f : Fsm) : (s.goTo f).par = s.par := rfl
@[simp] theorem State.goTo_mode (s : State) (f : Fsm) : (s.goTo f).mode = s.mode := rfl
@[simp] theorem State.goTo_verify (s : State) (f : Fsm) : (s.goTo f).verify = s.verify := rfl
@[simp] theorem State.goTo_ie (s : State) (f : Fsm) : (s.goTo f).ie = s.ie := rfl
@[simp] theorem State.goTo_done (s : State) (f : Fsm) : (s.goTo f).done = s.done := rfl
@[simp] theorem State.goTo_err (s : State) (f : Fsm) : (s.goTo f).err = s.err := rfl
@[simp] theorem State.goTo_errCode (s : State) (f : Fsm) : (s.goTo f).errCode = s.errCode := rfl
@[simp] theorem State.goTo_index (s : State) (f : Fsm) : (s.goTo f).index = s.index := rfl
@[simp] theorem State.goTo_inLen (s : State) (f : Fsm) : (s.goTo f).inLen = s.inLen := rfl
@[simp] theorem State.goTo_bufSize (s : State) (f : Fsm) : (s.goTo f).bufSize = s.bufSize := rfl
@[simp] theorem State.goTo_outLen (s : State) (f : Fsm) : (s.goTo f).outLen = s.outLen := rfl
@[simp] theorem State.goTo_adler (s : State) (f : Fsm) : (s.goTo f).adler = s.adler := rfl
@[simp] theorem State.goTo_trailer (s : State) (f : Fsm) : (s.goTo f).trailer = s.trailer := rfl
@[simp] theorem State.goTo_errIp (s : State) (f : Fsm) : (s.goTo f).errIp = s.errIp := rfl
@[simp] theorem State.goTo_errOp (s : State) (f : Fsm) : (s.goTo f).errOp = s.errOp := rfl
@[simp] theorem State.goTo_fsm (s : State) (f : Fsm) : (s.goTo f).fsm = f := rfl
@[simp] theorem State.goTo_ip (s : State) (f : Fsm) : (s.goTo f).ip = s.ip := rfl
@[simp] theorem State.goTo_bitCnt (s : State) (f : Fsm) : (s.goTo f).bitCnt = s.bitCnt := rfl
@[simp] theorem State.goTo_bitBuf (s : State) (f : Fsm) : (s.goTo f).bitBuf = s.bitBuf := rfl
@[simp] theorem State.goTo_op (s : State) (f : Fsm) : (s.goTo f).op = s.op := rfl
@[simp] theorem State.goTo_cap (s : State) (f : Fsm) : (s.goTo f).cap = s.cap := rfl
@[simp] theorem State.goTo_bfinal (s : State) (f : Fsm) : (s.goTo f).bfinal = s.bfinal := rfl
@[simp] theorem State.goTo_btype (s : State) (f : Fsm) : (s.goTo f).btype = s.btype := rfl
@[simp] theorem State.goTo_hlit (s : State) (f : Fsm) : (s.goTo f).hlit = s.hlit := rfl
@[simp] theorem State.goTo_hdist (s : State) (f : Fsm) : (s.goTo f).hdist = s.hdist := rfl
@[simp] theorem State.goTo_hclen (s : State) (f : Fsm) : (s.goTo f).hclen = s.hclen := rfl
@[simp] theorem State.goTo_clIdx (s : State) (f : Fsm) : (s.goTo f).clIdx = s.clIdx := rfl
@[simp] theorem State.goTo_prev (s : State) (f : Fsm) : (s.goTo f).prev = s.prev := rfl
@[simp] theorem State.goTo_clLen (s : State) (f : Fsm) : (s.goTo f).clLen = s.clLen := rfl
@[simp] theorem State.goTo_lens (s : State) (f : Fsm) : (s.goTo f).lens = s.lens := rfl
@[simp] theorem State.goTo_clt (s : State) (f : Fsm) : (s.goTo f).clt = s.clt := rfl
@[simp] theorem State.goTo_litt (s : State) (f : Fsm) : (s.goTo f).litt = s.litt := rfl
@[simp] theorem State.goTo_distt (s : State) (f : Fsm) : (s.goTo f).distt = s.distt := rfl
@[simp] theorem State.goTo_inMem (s : State) (f : Fsm) : (s.goTo f).inMem = s.inMem := rfl
@[simp] theorem State.goTo_outMem (s : State) (f : Fsm) : (s.goTo f).outMem = s.outMem := rfl
@[simp] theorem State.goTo_pend (s : State) (f : Fsm) : (s.goTo f).pend = .none := rfl
@[simp] theorem State.goTo_refusedMark (s : State) (f : Fsm) : (s.goTo f).refusedMark = s.refusedMark := rfl
@[simp] theorem State.goTo_readData (s : State) (f : Fsm) : (s.goTo f).readData = s.readData := rfl
@[simp] theorem State.goTo_epoch (s : State) (f : Fsm) : (s.goTo f).epoch = s.epoch := rfl
@[simp] theorem State.goTo_outDraw (s : State) (f : Fsm) : (s.goTo f).outDraw = s.outDraw := rfl
@[simp] theorem State.goTo_script (s : State) (f : Fsm) : (s.goTo f).script = s.script := rfl

/-! ## `State.blockEnd` -/

@[simp] theorem State.blockEnd_par (s : State) : (s.blockEnd).par = s.par := rfl
@[simp] theorem State.blockEnd_mode (s : State) : (s.blockEnd).mode = s.mode := rfl
@[simp] theorem State.blockEnd_verify (s : State) : (s.blockEnd).verify = s.verify := rfl
@[simp] theorem State.blockEnd_ie (s : State) : (s.blockEnd).ie = s.ie := rfl
@[simp] theorem State.blockEnd_done (s : State) : (s.blockEnd).done = s.done := rfl
@[simp] theorem State.blockEnd_err (s : State) : (s.blockEnd).err = s.err := rfl
@[simp] theorem State.blockEnd_errCode (s : State) : (s.blockEnd).errCode = s.errCode := rfl
@[simp] theorem State.blockEnd_index (s : State) : (s.blockEnd).index = s.index := rfl
@[simp] theorem State.blockEnd_inLen (s : State) : (s.blockEnd).inLen = s.inLen := rfl
@[simp] theorem State.blockEnd_bufSize (s : State) : (s.blockEnd).bufSize = s.bufSize := rfl
@[simp] theorem State.blockEnd_outLen (s : State) : (s.blockEnd).outLen = s.outLen := rfl
@[simp] theorem State.blockEnd_adler (s : State) : (s.blockEnd).adler = s.adler := rfl
@[simp] theorem State.blockEnd_trailer (s : State) : (s.blockEnd).trailer = s.trailer := rfl
@[simp] theorem State.blockEnd_errIp (s : State) : (s.blockEnd).errIp = s.errIp := rfl
@[simp] theorem State.blockEnd_errOp (s : State) : (s.blockEnd).errOp = s.errOp := rfl
@[simp] theorem State.blockEnd_fsm (s : State) : (s.blockEnd).fsm = if s.bfinal = 1 then .finish else .bhdr := rfl
@[simp] theorem State.blockEnd_ip (s : State) : (s.blockEnd).ip = s.ip := rfl
@[simp] theorem State.blockEnd_bitCnt (s : State) : (s.blockEnd).bitCnt = s.bitCnt := rfl
@[simp] theorem State.blockEnd_bitBuf (s : State) : (s.blockEnd).bitBuf = s.bitBuf := rfl
@[simp] theorem State.blockEnd_op (s : State) : (s.blockEnd).op = s.op := rfl
@[simp] theorem State.blockEnd_cap (s : State) : (s.blockEnd).cap = s.cap := rfl
@[simp] theorem State.blockEnd_bfinal (s : State) : (s.blockEnd).bfinal = s.bfinal := rfl
@[simp] theorem State.blockEnd_btype (s : State) : (s.blockEnd).btype = s.btype := rfl
@[simp] theorem State.blockEnd_hlit (s : State) : (s.blockEnd).hlit = s.hlit := rfl
@[simp] theorem State.blockEnd_hdist (s : State) : (s.blockEnd).hdist = s.hdist := rfl
@[simp] theorem State.blockEnd_hclen (s : State) : (s.blockEnd).hclen = s.hclen := rfl
@[simp] theorem State.blockEnd_clIdx (s : State) : (s.blockEnd).clIdx = s.clIdx := rfl
@[simp] theorem State.blockEnd_prev (s : State) : (s.blockEnd).prev = s.prev := rfl
@[simp] theorem State.blockEnd_clLen (s : State) : (s.blockEnd).clLen = s.clLen := rfl
@[simp] theorem State.blockEnd_lens (s : State) : (s.blockEnd).lens = s.lens := rfl
@[simp] theorem State.blockEnd_clt (s : State) : (s.blockEnd).clt = s.clt := rfl
@[simp] theorem State.blockEnd_litt (s : State) : (s.blockEnd).litt = s.litt := rfl
@[simp] theorem State.blockEnd_distt (s : State) : (s.blockEnd).distt = s.distt := rfl
@[simp] theorem State.blockEnd_inMem (s : State) : (s.blockEnd).inMem = s.inMem := rfl
@[simp] theorem State.blockEnd_outMem (s : State) : (s.blockEnd).outMem = s.outMem := rfl
@[simp] theorem State.blockEnd_pend (s : State) : (s.blockEnd).pend = .none := rfl
@[simp] theorem State.blockEnd_refusedMark (s : State) : (s.blockEnd).refusedMark = s.refusedMark := rfl
@[simp] theorem State.blockEnd_readData (s : State) : (s.blockEnd).readData = s.readData := rfl
@[simp] theorem State.blockEnd_epoch (s : State) : (s.blockEnd).epoch = s.epoch := rfl
@[simp] theorem State.blockEnd_outDraw (s : State) : (s.blockEnd).outDraw = s.outDraw := rfl
@[simp] theorem State.blockEnd_script (s : State) : (s.blockEnd).script = s.script := rfl

/-! ## `State.withReader` -/

@[simp] theorem State.withReader_par (s : State) (r : Reader) : (s.withReader r).par = s.par := rfl
@[simp] theorem State.withReader_mode (s : State) (r : Reader) : (s.withReader r).mode = s.mode := rfl
@[simp] theorem State.withReader_verify (s : State) (r : Reader) : (s.withReader r).verify = s.verify := rfl
@[simp] theorem State.withReader_ie (s : State) (r : Reader) : (s.withReader r).ie = s.ie := rfl
@[simp] theorem State.withReader_done (s : State) (r : Reader) : (s.withReader r).done = s.done := rfl
@[simp] theorem State.withReader_err (s : State) (r : Reader) : (s.withReader r).err = s.err := rfl
@[simp] theorem State.withReader_errCode (s : State) (r : Reader) : (s.withReader r).errCode = s.errCode := rfl
@[simp] theorem State.withReader_index (s : State) (r : Reader) : (s.withReader r).index = s.index := rfl
@[simp] theorem State.withReader_inLen (s : State) (r : Reader) : (s.withReader r).inLen = s.inLen := rfl
@[simp] theorem State.withReader_bufSize (s : State) (r : Reader) : (s.withReader r).bufSize = s.bufSize := rfl
@[simp] theorem State.withReader_outLen (s : State) (r : Reader) : (s.withReader r).outLen = s.outLen := rfl
@[simp] theorem State.withReader_adler (s : State) (r : Reader) : (s.withReader r).adler = s.adler := rfl
@[simp] theorem State.withReader_trailer (s : State) (r : Reader) : (s.withReader r).trailer = s.trailer := rfl
@[simp] theorem State.withReader_errIp (s : State) (r : Reader) : (s.withReader r).errIp = s.errIp := rfl
@[simp] theorem State.withReader_errOp (s : State) (r : Reader) : (s.withReader r).errOp = s.errOp := rfl
@[simp] theorem State.withReader_fsm (s : State) (r : Reader) : (s.withReader r).fsm = s.fsm := rfl
@[simp] theorem State.withReader_ip (s : State) (r : Reader) : (s.withReader r).ip = BitVec.ofNat 32 r.ip := rfl
@[simp] theorem State.withReader_bitCnt (s : State) (r : Reader) : (s.withReader r).bitCnt = BitVec.ofNat 6 r.cnt := rfl
@[simp] theorem State.withReader_bitBuf (s : State) (r : Reader) : (s.withReader r).bitBuf = BitVec.ofNat 32 r.buf := rfl
@[simp] theorem State.withReader_op (s : State) (r : Reader) : (s.withReader r).op = s.op := rfl
@[simp] theorem State.withReader_cap (s : State) (r : Reader) : (s.withReader r).cap = s.cap := rfl
@[simp] theorem State.withReader_bfinal (s : State) (r : Reader) : (s.withReader r).bfinal = s.bfinal := rfl
@[simp] theorem State.withReader_btype (s : State) (r : Reader) : (s.withReader r).btype = s.btype := rfl
@[simp] theorem State.withReader_hlit (s : State) (r : Reader) : (s.withReader r).hlit = s.hlit := rfl
@[simp] theorem State.withReader_hdist (s : State) (r : Reader) : (s.withReader r).hdist = s.hdist := rfl
@[simp] theorem State.withReader_hclen (s : State) (r : Reader) : (s.withReader r).hclen = s.hclen := rfl
@[simp] theorem State.withReader_clIdx (s : State) (r : Reader) : (s.withReader r).clIdx = s.clIdx := rfl
@[simp] theorem State.withReader_prev (s : State) (r : Reader) : (s.withReader r).prev = s.prev := rfl
@[simp] theorem State.withReader_clLen (s : State) (r : Reader) : (s.withReader r).clLen = s.clLen := rfl
@[simp] theorem State.withReader_lens (s : State) (r : Reader) : (s.withReader r).lens = s.lens := rfl
@[simp] theorem State.withReader_clt (s : State) (r : Reader) : (s.withReader r).clt = s.clt := rfl
@[simp] theorem State.withReader_litt (s : State) (r : Reader) : (s.withReader r).litt = s.litt := rfl
@[simp] theorem State.withReader_distt (s : State) (r : Reader) : (s.withReader r).distt = s.distt := rfl
@[simp] theorem State.withReader_inMem (s : State) (r : Reader) : (s.withReader r).inMem = s.inMem := rfl
@[simp] theorem State.withReader_outMem (s : State) (r : Reader) : (s.withReader r).outMem = s.outMem := rfl
@[simp] theorem State.withReader_pend (s : State) (r : Reader) : (s.withReader r).pend = s.pend := rfl
@[simp] theorem State.withReader_refusedMark (s : State) (r : Reader) : (s.withReader r).refusedMark = s.refusedMark := rfl
@[simp] theorem State.withReader_readData (s : State) (r : Reader) : (s.withReader r).readData = s.readData := rfl
@[simp] theorem State.withReader_epoch (s : State) (r : Reader) : (s.withReader r).epoch = s.epoch := rfl
@[simp] theorem State.withReader_outDraw (s : State) (r : Reader) : (s.withReader r).outDraw = s.outDraw := rfl
@[simp] theorem State.withReader_script (s : State) (r : Reader) : (s.withReader r).script = s.script := rfl

/-! ## `State.setError` -/

@[simp] theorem State.setError_par (s : State) (e : ErrorCode) : (s.setError e).par = s.par := rfl
@[simp] theorem State.setError_mode (s : State) (e : ErrorCode) : (s.setError e).mode = s.mode := rfl
@[simp] theorem State.setError_verify (s : State) (e : ErrorCode) : (s.setError e).verify = s.verify := rfl
@[simp] theorem State.setError_ie (s : State) (e : ErrorCode) : (s.setError e).ie = s.ie := rfl
@[simp] theorem State.setError_done (s : State) (e : ErrorCode) : (s.setError e).done = s.done := rfl
@[simp] theorem State.setError_err (s : State) (e : ErrorCode) : (s.setError e).err = true := rfl
@[simp] theorem State.setError_errCode (s : State) (e : ErrorCode) : (s.setError e).errCode = e.code := rfl
@[simp] theorem State.setError_index (s : State) (e : ErrorCode) : (s.setError e).index = s.index := rfl
@[simp] theorem State.setError_inLen (s : State) (e : ErrorCode) : (s.setError e).inLen = s.inLen := rfl
@[simp] theorem State.setError_bufSize (s : State) (e : ErrorCode) : (s.setError e).bufSize = s.bufSize := rfl
@[simp] theorem State.setError_outLen (s : State) (e : ErrorCode) : (s.setError e).outLen = s.outLen := rfl
@[simp] theorem State.setError_adler (s : State) (e : ErrorCode) : (s.setError e).adler = s.adler := rfl
@[simp] theorem State.setError_trailer (s : State) (e : ErrorCode) : (s.setError e).trailer = s.trailer := rfl
@[simp] theorem State.setError_errIp (s : State) (e : ErrorCode) : (s.setError e).errIp = s.errIp := rfl
@[simp] theorem State.setError_errOp (s : State) (e : ErrorCode) : (s.setError e).errOp = s.errOp := rfl
@[simp] theorem State.setError_fsm (s : State) (e : ErrorCode) : (s.setError e).fsm = s.fsm := rfl
@[simp] theorem State.setError_ip (s : State) (e : ErrorCode) : (s.setError e).ip = s.ip := rfl
@[simp] theorem State.setError_bitCnt (s : State) (e : ErrorCode) : (s.setError e).bitCnt = s.bitCnt := rfl
@[simp] theorem State.setError_bitBuf (s : State) (e : ErrorCode) : (s.setError e).bitBuf = s.bitBuf := rfl
@[simp] theorem State.setError_op (s : State) (e : ErrorCode) : (s.setError e).op = s.op := rfl
@[simp] theorem State.setError_cap (s : State) (e : ErrorCode) : (s.setError e).cap = s.cap := rfl
@[simp] theorem State.setError_bfinal (s : State) (e : ErrorCode) : (s.setError e).bfinal = s.bfinal := rfl
@[simp] theorem State.setError_btype (s : State) (e : ErrorCode) : (s.setError e).btype = s.btype := rfl
@[simp] theorem State.setError_hlit (s : State) (e : ErrorCode) : (s.setError e).hlit = s.hlit := rfl
@[simp] theorem State.setError_hdist (s : State) (e : ErrorCode) : (s.setError e).hdist = s.hdist := rfl
@[simp] theorem State.setError_hclen (s : State) (e : ErrorCode) : (s.setError e).hclen = s.hclen := rfl
@[simp] theorem State.setError_clIdx (s : State) (e : ErrorCode) : (s.setError e).clIdx = s.clIdx := rfl
@[simp] theorem State.setError_prev (s : State) (e : ErrorCode) : (s.setError e).prev = s.prev := rfl
@[simp] theorem State.setError_clLen (s : State) (e : ErrorCode) : (s.setError e).clLen = s.clLen := rfl
@[simp] theorem State.setError_lens (s : State) (e : ErrorCode) : (s.setError e).lens = s.lens := rfl
@[simp] theorem State.setError_clt (s : State) (e : ErrorCode) : (s.setError e).clt = s.clt := rfl
@[simp] theorem State.setError_litt (s : State) (e : ErrorCode) : (s.setError e).litt = s.litt := rfl
@[simp] theorem State.setError_distt (s : State) (e : ErrorCode) : (s.setError e).distt = s.distt := rfl
@[simp] theorem State.setError_inMem (s : State) (e : ErrorCode) : (s.setError e).inMem = s.inMem := rfl
@[simp] theorem State.setError_outMem (s : State) (e : ErrorCode) : (s.setError e).outMem = s.outMem := rfl
@[simp] theorem State.setError_pend (s : State) (e : ErrorCode) : (s.setError e).pend = s.pend := rfl
@[simp] theorem State.setError_refusedMark (s : State) (e : ErrorCode) : (s.setError e).refusedMark = s.refusedMark := rfl
@[simp] theorem State.setError_readData (s : State) (e : ErrorCode) : (s.setError e).readData = s.readData := rfl
@[simp] theorem State.setError_epoch (s : State) (e : ErrorCode) : (s.setError e).epoch = s.epoch := rfl
@[simp] theorem State.setError_outDraw (s : State) (e : ErrorCode) : (s.setError e).outDraw = s.outDraw := rfl
@[simp] theorem State.setError_script (s : State) (e : ErrorCode) : (s.setError e).script = s.script := rfl

/-! ## `State.setDone` -/

@[simp] theorem State.setDone_par (s : State) : (s.setDone).par = s.par := rfl
@[simp] theorem State.setDone_mode (s : State) : (s.setDone).mode = s.mode := rfl
@[simp] theorem State.setDone_verify (s : State) : (s.setDone).verify = s.verify := rfl
@[simp] theorem State.setDone_ie (s : State) : (s.setDone).ie = s.ie := rfl
@[simp] theorem State.setDone_done (s : State) : (s.setDone).done = true := rfl
@[simp] theorem State.setDone_err (s : State) : (s.setDone).err = s.err := rfl
@[simp] theorem State.setDone_errCode (s : State) : (s.setDone).errCode = s.errCode := rfl
@[simp] theorem State.setDone_index (s : State) : (s.setDone).index = s.index := rfl
@[simp] theorem State.setDone_inLen (s : State) : (s.setDone).inLen = s.inLen := rfl
@[simp] theorem State.setDone_bufSize (s : State) : (s.setDone).bufSize = s.bufSize := rfl
@[simp] theorem State.setDone_outLen (s : State) : (s.setDone).outLen = s.outLen := rfl
@[simp] theorem State.setDone_adler (s : State) : (s.setDone).adler = s.adler := rfl
@[simp] theorem State.setDone_trailer (s : State) : (s.setDone).trailer = s.trailer := rfl
@[simp] theorem State.setDone_errIp (s : State) : (s.setDone).errIp = s.errIp := rfl
@[simp] theorem State.setDone_errOp (s : State) : (s.setDone).errOp = s.errOp := rfl
@[simp] theorem State.setDone_fsm (s : State) : (s.setDone).fsm = s.fsm := rfl
@[simp] theorem State.setDone_ip (s : State) : (s.setDone).ip = s.ip := rfl
@[simp] theorem State.setDone_bitCnt (s : State) : (s.setDone).bitCnt = s.bitCnt := rfl
@[simp] theorem State.setDone_bitBuf (s : State) : (s.setDone).bitBuf = s.bitBuf := rfl
@[simp] theorem State.setDone_op (s : State) : (s.setDone).op = s.op := rfl
@[simp] theorem State.setDone_cap (s : State) : (s.setDone).cap = s.cap := rfl
@[simp] theorem State.setDone_bfinal (s : State) : (s.setDone).bfinal = s.bfinal := rfl
@[simp] theorem State.setDone_btype (s : State) : (s.setDone).btype = s.btype := rfl
@[simp] theorem State.setDone_hlit (s : State) : (s.setDone).hlit = s.hlit := rfl
@[simp] theorem State.setDone_hdist (s : State) : (s.setDone).hdist = s.hdist := rfl
@[simp] theorem State.setDone_hclen (s : State) : (s.setDone).hclen = s.hclen := rfl
@[simp] theorem State.setDone_clIdx (s : State) : (s.setDone).clIdx = s.clIdx := rfl
@[simp] theorem State.setDone_prev (s : State) : (s.setDone).prev = s.prev := rfl
@[simp] theorem State.setDone_clLen (s : State) : (s.setDone).clLen = s.clLen := rfl
@[simp] theorem State.setDone_lens (s : State) : (s.setDone).lens = s.lens := rfl
@[simp] theorem State.setDone_clt (s : State) : (s.setDone).clt = s.clt := rfl
@[simp] theorem State.setDone_litt (s : State) : (s.setDone).litt = s.litt := rfl
@[simp] theorem State.setDone_distt (s : State) : (s.setDone).distt = s.distt := rfl
@[simp] theorem State.setDone_inMem (s : State) : (s.setDone).inMem = s.inMem := rfl
@[simp] theorem State.setDone_outMem (s : State) : (s.setDone).outMem = s.outMem := rfl
@[simp] theorem State.setDone_pend (s : State) : (s.setDone).pend = s.pend := rfl
@[simp] theorem State.setDone_refusedMark (s : State) : (s.setDone).refusedMark = s.refusedMark := rfl
@[simp] theorem State.setDone_readData (s : State) : (s.setDone).readData = s.readData := rfl
@[simp] theorem State.setDone_epoch (s : State) : (s.setDone).epoch = s.epoch := rfl
@[simp] theorem State.setDone_outDraw (s : State) : (s.setDone).outDraw = s.outDraw := rfl
@[simp] theorem State.setDone_script (s : State) : (s.setDone).script = s.script := rfl

/-! ## `State.clearFlags` -/

@[simp] theorem State.clearFlags_par (s : State) : (s.clearFlags).par = s.par := rfl
@[simp] theorem State.clearFlags_mode (s : State) : (s.clearFlags).mode = s.mode := rfl
@[simp] theorem State.clearFlags_verify (s : State) : (s.clearFlags).verify = s.verify := rfl
@[simp] theorem State.clearFlags_ie (s : State) : (s.clearFlags).ie = s.ie := rfl
@[simp] theorem State.clearFlags_done (s : State) : (s.clearFlags).done = false := rfl
@[simp] theorem State.clearFlags_err (s : State) : (s.clearFlags).err = false := rfl
@[simp] theorem State.clearFlags_errCode (s : State) : (s.clearFlags).errCode = 0 := rfl
@[simp] theorem State.clearFlags_index (s : State) : (s.clearFlags).index = s.index := rfl
@[simp] theorem State.clearFlags_inLen (s : State) : (s.clearFlags).inLen = s.inLen := rfl
@[simp] theorem State.clearFlags_bufSize (s : State) : (s.clearFlags).bufSize = s.bufSize := rfl
@[simp] theorem State.clearFlags_outLen (s : State) : (s.clearFlags).outLen = s.outLen := rfl
@[simp] theorem State.clearFlags_adler (s : State) : (s.clearFlags).adler = s.adler := rfl
@[simp] theorem State.clearFlags_trailer (s : State) : (s.clearFlags).trailer = s.trailer := rfl
@[simp] theorem State.clearFlags_errIp (s : State) : (s.clearFlags).errIp = s.errIp := rfl
@[simp] theorem State.clearFlags_errOp (s : State) : (s.clearFlags).errOp = s.errOp := rfl
@[simp] theorem State.clearFlags_fsm (s : State) : (s.clearFlags).fsm = s.fsm := rfl
@[simp] theorem State.clearFlags_ip (s : State) : (s.clearFlags).ip = s.ip := rfl
@[simp] theorem State.clearFlags_bitCnt (s : State) : (s.clearFlags).bitCnt = s.bitCnt := rfl
@[simp] theorem State.clearFlags_bitBuf (s : State) : (s.clearFlags).bitBuf = s.bitBuf := rfl
@[simp] theorem State.clearFlags_op (s : State) : (s.clearFlags).op = s.op := rfl
@[simp] theorem State.clearFlags_cap (s : State) : (s.clearFlags).cap = s.cap := rfl
@[simp] theorem State.clearFlags_bfinal (s : State) : (s.clearFlags).bfinal = s.bfinal := rfl
@[simp] theorem State.clearFlags_btype (s : State) : (s.clearFlags).btype = s.btype := rfl
@[simp] theorem State.clearFlags_hlit (s : State) : (s.clearFlags).hlit = s.hlit := rfl
@[simp] theorem State.clearFlags_hdist (s : State) : (s.clearFlags).hdist = s.hdist := rfl
@[simp] theorem State.clearFlags_hclen (s : State) : (s.clearFlags).hclen = s.hclen := rfl
@[simp] theorem State.clearFlags_clIdx (s : State) : (s.clearFlags).clIdx = s.clIdx := rfl
@[simp] theorem State.clearFlags_prev (s : State) : (s.clearFlags).prev = s.prev := rfl
@[simp] theorem State.clearFlags_clLen (s : State) : (s.clearFlags).clLen = s.clLen := rfl
@[simp] theorem State.clearFlags_lens (s : State) : (s.clearFlags).lens = s.lens := rfl
@[simp] theorem State.clearFlags_clt (s : State) : (s.clearFlags).clt = s.clt := rfl
@[simp] theorem State.clearFlags_litt (s : State) : (s.clearFlags).litt = s.litt := rfl
@[simp] theorem State.clearFlags_distt (s : State) : (s.clearFlags).distt = s.distt := rfl
@[simp] theorem State.clearFlags_inMem (s : State) : (s.clearFlags).inMem = s.inMem := rfl
@[simp] theorem State.clearFlags_outMem (s : State) : (s.clearFlags).outMem = s.outMem := rfl
@[simp] theorem State.clearFlags_pend (s : State) : (s.clearFlags).pend = s.pend := rfl
@[simp] theorem State.clearFlags_refusedMark (s : State) : (s.clearFlags).refusedMark = s.refusedMark := rfl
@[simp] theorem State.clearFlags_readData (s : State) : (s.clearFlags).readData = s.readData := rfl
@[simp] theorem State.clearFlags_epoch (s : State) : (s.clearFlags).epoch = s.epoch := rfl
@[simp] theorem State.clearFlags_outDraw (s : State) : (s.clearFlags).outDraw = s.outDraw := rfl
@[simp] theorem State.clearFlags_script (s : State) : (s.clearFlags).script = s.script := rfl

/-! ## `State.clearStatus` -/

@[simp] theorem State.clearStatus_par (s : State) (v : Word) : (s.clearStatus v).par = s.par := rfl
@[simp] theorem State.clearStatus_mode (s : State) (v : Word) : (s.clearStatus v).mode = s.mode := rfl
@[simp] theorem State.clearStatus_verify (s : State) (v : Word) : (s.clearStatus v).verify = s.verify := rfl
@[simp] theorem State.clearStatus_ie (s : State) (v : Word) : (s.clearStatus v).ie = s.ie := rfl
@[simp] theorem State.clearStatus_done (s : State) (v : Word) : (s.clearStatus v).done = (s.done && !v.getLsbD 1) := rfl
@[simp] theorem State.clearStatus_err (s : State) (v : Word) : (s.clearStatus v).err = (s.err && !v.getLsbD 2) := rfl
@[simp] theorem State.clearStatus_errCode (s : State) (v : Word) : (s.clearStatus v).errCode = s.errCode := rfl
@[simp] theorem State.clearStatus_index (s : State) (v : Word) : (s.clearStatus v).index = s.index := rfl
@[simp] theorem State.clearStatus_inLen (s : State) (v : Word) : (s.clearStatus v).inLen = s.inLen := rfl
@[simp] theorem State.clearStatus_bufSize (s : State) (v : Word) : (s.clearStatus v).bufSize = s.bufSize := rfl
@[simp] theorem State.clearStatus_outLen (s : State) (v : Word) : (s.clearStatus v).outLen = s.outLen := rfl
@[simp] theorem State.clearStatus_adler (s : State) (v : Word) : (s.clearStatus v).adler = s.adler := rfl
@[simp] theorem State.clearStatus_trailer (s : State) (v : Word) : (s.clearStatus v).trailer = s.trailer := rfl
@[simp] theorem State.clearStatus_errIp (s : State) (v : Word) : (s.clearStatus v).errIp = s.errIp := rfl
@[simp] theorem State.clearStatus_errOp (s : State) (v : Word) : (s.clearStatus v).errOp = s.errOp := rfl
@[simp] theorem State.clearStatus_fsm (s : State) (v : Word) : (s.clearStatus v).fsm = s.fsm := rfl
@[simp] theorem State.clearStatus_ip (s : State) (v : Word) : (s.clearStatus v).ip = s.ip := rfl
@[simp] theorem State.clearStatus_bitCnt (s : State) (v : Word) : (s.clearStatus v).bitCnt = s.bitCnt := rfl
@[simp] theorem State.clearStatus_bitBuf (s : State) (v : Word) : (s.clearStatus v).bitBuf = s.bitBuf := rfl
@[simp] theorem State.clearStatus_op (s : State) (v : Word) : (s.clearStatus v).op = s.op := rfl
@[simp] theorem State.clearStatus_cap (s : State) (v : Word) : (s.clearStatus v).cap = s.cap := rfl
@[simp] theorem State.clearStatus_bfinal (s : State) (v : Word) : (s.clearStatus v).bfinal = s.bfinal := rfl
@[simp] theorem State.clearStatus_btype (s : State) (v : Word) : (s.clearStatus v).btype = s.btype := rfl
@[simp] theorem State.clearStatus_hlit (s : State) (v : Word) : (s.clearStatus v).hlit = s.hlit := rfl
@[simp] theorem State.clearStatus_hdist (s : State) (v : Word) : (s.clearStatus v).hdist = s.hdist := rfl
@[simp] theorem State.clearStatus_hclen (s : State) (v : Word) : (s.clearStatus v).hclen = s.hclen := rfl
@[simp] theorem State.clearStatus_clIdx (s : State) (v : Word) : (s.clearStatus v).clIdx = s.clIdx := rfl
@[simp] theorem State.clearStatus_prev (s : State) (v : Word) : (s.clearStatus v).prev = s.prev := rfl
@[simp] theorem State.clearStatus_clLen (s : State) (v : Word) : (s.clearStatus v).clLen = s.clLen := rfl
@[simp] theorem State.clearStatus_lens (s : State) (v : Word) : (s.clearStatus v).lens = s.lens := rfl
@[simp] theorem State.clearStatus_clt (s : State) (v : Word) : (s.clearStatus v).clt = s.clt := rfl
@[simp] theorem State.clearStatus_litt (s : State) (v : Word) : (s.clearStatus v).litt = s.litt := rfl
@[simp] theorem State.clearStatus_distt (s : State) (v : Word) : (s.clearStatus v).distt = s.distt := rfl
@[simp] theorem State.clearStatus_inMem (s : State) (v : Word) : (s.clearStatus v).inMem = s.inMem := rfl
@[simp] theorem State.clearStatus_outMem (s : State) (v : Word) : (s.clearStatus v).outMem = s.outMem := rfl
@[simp] theorem State.clearStatus_pend (s : State) (v : Word) : (s.clearStatus v).pend = s.pend := rfl
@[simp] theorem State.clearStatus_refusedMark (s : State) (v : Word) : (s.clearStatus v).refusedMark = s.refusedMark := rfl
@[simp] theorem State.clearStatus_readData (s : State) (v : Word) : (s.clearStatus v).readData = s.readData := rfl
@[simp] theorem State.clearStatus_epoch (s : State) (v : Word) : (s.clearStatus v).epoch = s.epoch := rfl
@[simp] theorem State.clearStatus_outDraw (s : State) (v : Word) : (s.clearStatus v).outDraw = s.outDraw := rfl
@[simp] theorem State.clearStatus_script (s : State) (v : Word) : (s.clearStatus v).script = s.script := rfl

/-! ## `State.enterError` -/

@[simp] theorem State.enterError_par (s : State) (e : ErrorCode) : (s.enterError e).par = s.par := rfl
@[simp] theorem State.enterError_mode (s : State) (e : ErrorCode) : (s.enterError e).mode = s.mode := rfl
@[simp] theorem State.enterError_verify (s : State) (e : ErrorCode) : (s.enterError e).verify = s.verify := rfl
@[simp] theorem State.enterError_ie (s : State) (e : ErrorCode) : (s.enterError e).ie = s.ie := rfl
@[simp] theorem State.enterError_done (s : State) (e : ErrorCode) : (s.enterError e).done = s.done := rfl
@[simp] theorem State.enterError_err (s : State) (e : ErrorCode) : (s.enterError e).err = true := rfl
@[simp] theorem State.enterError_errCode (s : State) (e : ErrorCode) : (s.enterError e).errCode = e.code := rfl
@[simp] theorem State.enterError_index (s : State) (e : ErrorCode) : (s.enterError e).index = s.index := rfl
@[simp] theorem State.enterError_inLen (s : State) (e : ErrorCode) : (s.enterError e).inLen = s.inLen := rfl
@[simp] theorem State.enterError_bufSize (s : State) (e : ErrorCode) : (s.enterError e).bufSize = s.bufSize := rfl
@[simp] theorem State.enterError_outLen (s : State) (e : ErrorCode) : (s.enterError e).outLen = 0 := rfl
@[simp] theorem State.enterError_adler (s : State) (e : ErrorCode) : (s.enterError e).adler = s.adler := rfl
@[simp] theorem State.enterError_trailer (s : State) (e : ErrorCode) : (s.enterError e).trailer = s.trailer := rfl
@[simp] theorem State.enterError_errIp (s : State) (e : ErrorCode) : (s.enterError e).errIp = s.ip := rfl
@[simp] theorem State.enterError_errOp (s : State) (e : ErrorCode) : (s.enterError e).errOp = s.op := rfl
@[simp] theorem State.enterError_fsm (s : State) (e : ErrorCode) : (s.enterError e).fsm = .error := rfl
@[simp] theorem State.enterError_ip (s : State) (e : ErrorCode) : (s.enterError e).ip = s.ip := rfl
@[simp] theorem State.enterError_bitCnt (s : State) (e : ErrorCode) : (s.enterError e).bitCnt = s.bitCnt := rfl
@[simp] theorem State.enterError_bitBuf (s : State) (e : ErrorCode) : (s.enterError e).bitBuf = s.bitBuf := rfl
@[simp] theorem State.enterError_op (s : State) (e : ErrorCode) : (s.enterError e).op = s.op := rfl
@[simp] theorem State.enterError_cap (s : State) (e : ErrorCode) : (s.enterError e).cap = s.cap := rfl
@[simp] theorem State.enterError_bfinal (s : State) (e : ErrorCode) : (s.enterError e).bfinal = s.bfinal := rfl
@[simp] theorem State.enterError_btype (s : State) (e : ErrorCode) : (s.enterError e).btype = s.btype := rfl
@[simp] theorem State.enterError_hlit (s : State) (e : ErrorCode) : (s.enterError e).hlit = s.hlit := rfl
@[simp] theorem State.enterError_hdist (s : State) (e : ErrorCode) : (s.enterError e).hdist = s.hdist := rfl
@[simp] theorem State.enterError_hclen (s : State) (e : ErrorCode) : (s.enterError e).hclen = s.hclen := rfl
@[simp] theorem State.enterError_clIdx (s : State) (e : ErrorCode) : (s.enterError e).clIdx = s.clIdx := rfl
@[simp] theorem State.enterError_prev (s : State) (e : ErrorCode) : (s.enterError e).prev = s.prev := rfl
@[simp] theorem State.enterError_clLen (s : State) (e : ErrorCode) : (s.enterError e).clLen = s.clLen := rfl
@[simp] theorem State.enterError_lens (s : State) (e : ErrorCode) : (s.enterError e).lens = s.lens := rfl
@[simp] theorem State.enterError_clt (s : State) (e : ErrorCode) : (s.enterError e).clt = s.clt := rfl
@[simp] theorem State.enterError_litt (s : State) (e : ErrorCode) : (s.enterError e).litt = s.litt := rfl
@[simp] theorem State.enterError_distt (s : State) (e : ErrorCode) : (s.enterError e).distt = s.distt := rfl
@[simp] theorem State.enterError_inMem (s : State) (e : ErrorCode) : (s.enterError e).inMem = s.inMem := rfl
@[simp] theorem State.enterError_outMem (s : State) (e : ErrorCode) : (s.enterError e).outMem = s.outMem := rfl
@[simp] theorem State.enterError_pend (s : State) (e : ErrorCode) : (s.enterError e).pend = .none := rfl
@[simp] theorem State.enterError_refusedMark (s : State) (e : ErrorCode) : (s.enterError e).refusedMark = s.refusedMark := rfl
@[simp] theorem State.enterError_readData (s : State) (e : ErrorCode) : (s.enterError e).readData = s.readData := rfl
@[simp] theorem State.enterError_epoch (s : State) (e : ErrorCode) : (s.enterError e).epoch = s.epoch := rfl
@[simp] theorem State.enterError_outDraw (s : State) (e : ErrorCode) : (s.enterError e).outDraw = s.outDraw := rfl
@[simp] theorem State.enterError_script (s : State) (e : ErrorCode) : (s.enterError e).script = s.script := rfl

/-! ## `State.startInit` -/

@[simp] theorem State.startInit_par (s : State) : (s.startInit).par = s.par := rfl
@[simp] theorem State.startInit_mode (s : State) : (s.startInit).mode = s.mode := rfl
@[simp] theorem State.startInit_verify (s : State) : (s.startInit).verify = s.verify := rfl
@[simp] theorem State.startInit_ie (s : State) : (s.startInit).ie = s.ie := rfl
@[simp] theorem State.startInit_done (s : State) : (s.startInit).done = false := rfl
@[simp] theorem State.startInit_err (s : State) : (s.startInit).err = false := rfl
@[simp] theorem State.startInit_errCode (s : State) : (s.startInit).errCode = 0 := rfl
@[simp] theorem State.startInit_index (s : State) : (s.startInit).index = s.index := rfl
@[simp] theorem State.startInit_inLen (s : State) : (s.startInit).inLen = s.inLen := rfl
@[simp] theorem State.startInit_bufSize (s : State) : (s.startInit).bufSize = s.bufSize := rfl
@[simp] theorem State.startInit_outLen (s : State) : (s.startInit).outLen = 0 := rfl
@[simp] theorem State.startInit_adler (s : State) : (s.startInit).adler = 0 := rfl
@[simp] theorem State.startInit_trailer (s : State) : (s.startInit).trailer = 0 := rfl
@[simp] theorem State.startInit_errIp (s : State) : (s.startInit).errIp = 0 := rfl
@[simp] theorem State.startInit_errOp (s : State) : (s.startInit).errOp = 0 := rfl
@[simp] theorem State.startInit_fsm (s : State) : (s.startInit).fsm = if s.mode then .zhdr else .bhdr := rfl
@[simp] theorem State.startInit_ip (s : State) : (s.startInit).ip = s.index := rfl
@[simp] theorem State.startInit_bitCnt (s : State) : (s.startInit).bitCnt = 0 := rfl
@[simp] theorem State.startInit_bitBuf (s : State) : (s.startInit).bitBuf = 0 := rfl
@[simp] theorem State.startInit_op (s : State) : (s.startInit).op = 0 := rfl
@[simp] theorem State.startInit_cap (s : State) : (s.startInit).cap = BitVec.ofNat 32 (Nat.min s.bufSize.toNat s.par.outMemSize) := rfl
@[simp] theorem State.startInit_bfinal (s : State) : (s.startInit).bfinal = 0 := rfl
@[simp] theorem State.startInit_btype (s : State) : (s.startInit).btype = 0 := rfl
@[simp] theorem State.startInit_hlit (s : State) : (s.startInit).hlit = 0 := rfl
@[simp] theorem State.startInit_hdist (s : State) : (s.startInit).hdist = 0 := rfl
@[simp] theorem State.startInit_hclen (s : State) : (s.startInit).hclen = 0 := rfl
@[simp] theorem State.startInit_clIdx (s : State) : (s.startInit).clIdx = 0 := rfl
@[simp] theorem State.startInit_prev (s : State) : (s.startInit).prev = 0 := rfl
@[simp] theorem State.startInit_clLen (s : State) : (s.startInit).clLen = s.clLen := rfl
@[simp] theorem State.startInit_lens (s : State) : (s.startInit).lens = s.lens := rfl
@[simp] theorem State.startInit_clt (s : State) : (s.startInit).clt = s.clt := rfl
@[simp] theorem State.startInit_litt (s : State) : (s.startInit).litt = flit := rfl
@[simp] theorem State.startInit_distt (s : State) : (s.startInit).distt = fdist := rfl
@[simp] theorem State.startInit_inMem (s : State) : (s.startInit).inMem = s.inMem := rfl
@[simp] theorem State.startInit_outMem (s : State) : (s.startInit).outMem = [] := rfl
@[simp] theorem State.startInit_pend (s : State) : (s.startInit).pend = .none := rfl
@[simp] theorem State.startInit_refusedMark (s : State) : (s.startInit).refusedMark = s.refusedMark := rfl
@[simp] theorem State.startInit_readData (s : State) : (s.startInit).readData = s.readData := rfl
@[simp] theorem State.startInit_epoch (s : State) : (s.startInit).epoch = s.epoch := rfl
@[simp] theorem State.startInit_outDraw (s : State) : (s.startInit).outDraw = s.outDraw + 1 := rfl
@[simp] theorem State.startInit_script (s : State) : (s.startInit).script = s.script := rfl

/-! ## `State.complete` -/

@[simp] theorem State.complete_par (s : State) : (s.complete).par = s.par := rfl
@[simp] theorem State.complete_mode (s : State) : (s.complete).mode = s.mode := rfl
@[simp] theorem State.complete_verify (s : State) : (s.complete).verify = s.verify := rfl
@[simp] theorem State.complete_ie (s : State) : (s.complete).ie = s.ie := rfl
@[simp] theorem State.complete_done (s : State) : (s.complete).done = true := rfl
@[simp] theorem State.complete_err (s : State) : (s.complete).err = s.err := rfl
@[simp] theorem State.complete_errCode (s : State) : (s.complete).errCode = s.errCode := rfl
@[simp] theorem State.complete_index (s : State) : (s.complete).index = s.index := rfl
@[simp] theorem State.complete_inLen (s : State) : (s.complete).inLen = s.inLen := rfl
@[simp] theorem State.complete_bufSize (s : State) : (s.complete).bufSize = s.bufSize := rfl
@[simp] theorem State.complete_outLen (s : State) : (s.complete).outLen = s.op := rfl
@[simp] theorem State.complete_adler (s : State) : (s.complete).adler = s.adler := rfl
@[simp] theorem State.complete_trailer (s : State) : (s.complete).trailer = s.trailer := rfl
@[simp] theorem State.complete_errIp (s : State) : (s.complete).errIp = s.errIp := rfl
@[simp] theorem State.complete_errOp (s : State) : (s.complete).errOp = s.errOp := rfl
@[simp] theorem State.complete_fsm (s : State) : (s.complete).fsm = .done := rfl
@[simp] theorem State.complete_ip (s : State) : (s.complete).ip = s.ip := rfl
@[simp] theorem State.complete_bitCnt (s : State) : (s.complete).bitCnt = s.bitCnt := rfl
@[simp] theorem State.complete_bitBuf (s : State) : (s.complete).bitBuf = s.bitBuf := rfl
@[simp] theorem State.complete_op (s : State) : (s.complete).op = s.op := rfl
@[simp] theorem State.complete_cap (s : State) : (s.complete).cap = s.op := rfl
@[simp] theorem State.complete_bfinal (s : State) : (s.complete).bfinal = s.bfinal := rfl
@[simp] theorem State.complete_btype (s : State) : (s.complete).btype = s.btype := rfl
@[simp] theorem State.complete_hlit (s : State) : (s.complete).hlit = s.hlit := rfl
@[simp] theorem State.complete_hdist (s : State) : (s.complete).hdist = s.hdist := rfl
@[simp] theorem State.complete_hclen (s : State) : (s.complete).hclen = s.hclen := rfl
@[simp] theorem State.complete_clIdx (s : State) : (s.complete).clIdx = s.clIdx := rfl
@[simp] theorem State.complete_prev (s : State) : (s.complete).prev = s.prev := rfl
@[simp] theorem State.complete_clLen (s : State) : (s.complete).clLen = s.clLen := rfl
@[simp] theorem State.complete_lens (s : State) : (s.complete).lens = s.lens := rfl
@[simp] theorem State.complete_clt (s : State) : (s.complete).clt = s.clt := rfl
@[simp] theorem State.complete_litt (s : State) : (s.complete).litt = s.litt := rfl
@[simp] theorem State.complete_distt (s : State) : (s.complete).distt = s.distt := rfl
@[simp] theorem State.complete_inMem (s : State) : (s.complete).inMem = s.inMem := rfl
@[simp] theorem State.complete_outMem (s : State) : (s.complete).outMem = s.outMem := rfl
@[simp] theorem State.complete_pend (s : State) : (s.complete).pend = .none := rfl
@[simp] theorem State.complete_refusedMark (s : State) : (s.complete).refusedMark = s.refusedMark := rfl
@[simp] theorem State.complete_readData (s : State) : (s.complete).readData = s.readData := rfl
@[simp] theorem State.complete_epoch (s : State) : (s.complete).epoch = s.epoch := rfl
@[simp] theorem State.complete_outDraw (s : State) : (s.complete).outDraw = s.outDraw := rfl
@[simp] theorem State.complete_script (s : State) : (s.complete).script = s.script := rfl

/-! ## `State.markRefused` -/

@[simp] theorem State.markRefused_par (s : State) : (s.markRefused).par = s.par := rfl
@[simp] theorem State.markRefused_mode (s : State) : (s.markRefused).mode = s.mode := rfl
@[simp] theorem State.markRefused_verify (s : State) : (s.markRefused).verify = s.verify := rfl
@[simp] theorem State.markRefused_ie (s : State) : (s.markRefused).ie = s.ie := rfl
@[simp] theorem State.markRefused_done (s : State) : (s.markRefused).done = s.done := rfl
@[simp] theorem State.markRefused_err (s : State) : (s.markRefused).err = s.err := rfl
@[simp] theorem State.markRefused_errCode (s : State) : (s.markRefused).errCode = s.errCode := rfl
@[simp] theorem State.markRefused_index (s : State) : (s.markRefused).index = s.index := rfl
@[simp] theorem State.markRefused_inLen (s : State) : (s.markRefused).inLen = s.inLen := rfl
@[simp] theorem State.markRefused_bufSize (s : State) : (s.markRefused).bufSize = s.bufSize := rfl
@[simp] theorem State.markRefused_outLen (s : State) : (s.markRefused).outLen = s.outLen := rfl
@[simp] theorem State.markRefused_adler (s : State) : (s.markRefused).adler = s.adler := rfl
@[simp] theorem State.markRefused_trailer (s : State) : (s.markRefused).trailer = s.trailer := rfl
@[simp] theorem State.markRefused_errIp (s : State) : (s.markRefused).errIp = s.errIp := rfl
@[simp] theorem State.markRefused_errOp (s : State) : (s.markRefused).errOp = s.errOp := rfl
@[simp] theorem State.markRefused_fsm (s : State) : (s.markRefused).fsm = s.fsm := rfl
@[simp] theorem State.markRefused_ip (s : State) : (s.markRefused).ip = s.ip := rfl
@[simp] theorem State.markRefused_bitCnt (s : State) : (s.markRefused).bitCnt = s.bitCnt := rfl
@[simp] theorem State.markRefused_bitBuf (s : State) : (s.markRefused).bitBuf = s.bitBuf := rfl
@[simp] theorem State.markRefused_op (s : State) : (s.markRefused).op = s.op := rfl
@[simp] theorem State.markRefused_cap (s : State) : (s.markRefused).cap = s.cap := rfl
@[simp] theorem State.markRefused_bfinal (s : State) : (s.markRefused).bfinal = s.bfinal := rfl
@[simp] theorem State.markRefused_btype (s : State) : (s.markRefused).btype = s.btype := rfl
@[simp] theorem State.markRefused_hlit (s : State) : (s.markRefused).hlit = s.hlit := rfl
@[simp] theorem State.markRefused_hdist (s : State) : (s.markRefused).hdist = s.hdist := rfl
@[simp] theorem State.markRefused_hclen (s : State) : (s.markRefused).hclen = s.hclen := rfl
@[simp] theorem State.markRefused_clIdx (s : State) : (s.markRefused).clIdx = s.clIdx := rfl
@[simp] theorem State.markRefused_prev (s : State) : (s.markRefused).prev = s.prev := rfl
@[simp] theorem State.markRefused_clLen (s : State) : (s.markRefused).clLen = s.clLen := rfl
@[simp] theorem State.markRefused_lens (s : State) : (s.markRefused).lens = s.lens := rfl
@[simp] theorem State.markRefused_clt (s : State) : (s.markRefused).clt = s.clt := rfl
@[simp] theorem State.markRefused_litt (s : State) : (s.markRefused).litt = s.litt := rfl
@[simp] theorem State.markRefused_distt (s : State) : (s.markRefused).distt = s.distt := rfl
@[simp] theorem State.markRefused_inMem (s : State) : (s.markRefused).inMem = s.inMem := rfl
@[simp] theorem State.markRefused_outMem (s : State) : (s.markRefused).outMem = s.outMem := rfl
@[simp] theorem State.markRefused_pend (s : State) : (s.markRefused).pend = s.pend := rfl
@[simp] theorem State.markRefused_refusedMark (s : State) : (s.markRefused).refusedMark = true := rfl
@[simp] theorem State.markRefused_readData (s : State) : (s.markRefused).readData = s.readData := rfl
@[simp] theorem State.markRefused_epoch (s : State) : (s.markRefused).epoch = s.epoch := rfl
@[simp] theorem State.markRefused_outDraw (s : State) : (s.markRefused).outDraw = s.outDraw := rfl
@[simp] theorem State.markRefused_script (s : State) : (s.markRefused).script = s.script := rfl

/-! ## `State.advance` -/

@[simp] theorem State.advance_par (s : State) : (s.advance).par = s.par := rfl
@[simp] theorem State.advance_mode (s : State) : (s.advance).mode = s.mode := rfl
@[simp] theorem State.advance_verify (s : State) : (s.advance).verify = s.verify := rfl
@[simp] theorem State.advance_ie (s : State) : (s.advance).ie = s.ie := rfl
@[simp] theorem State.advance_done (s : State) : (s.advance).done = s.done := rfl
@[simp] theorem State.advance_err (s : State) : (s.advance).err = s.err := rfl
@[simp] theorem State.advance_errCode (s : State) : (s.advance).errCode = s.errCode := rfl
@[simp] theorem State.advance_index (s : State) : (s.advance).index = s.index := rfl
@[simp] theorem State.advance_inLen (s : State) : (s.advance).inLen = s.inLen := rfl
@[simp] theorem State.advance_bufSize (s : State) : (s.advance).bufSize = s.bufSize := rfl
@[simp] theorem State.advance_outLen (s : State) : (s.advance).outLen = s.outLen := rfl
@[simp] theorem State.advance_adler (s : State) : (s.advance).adler = s.adler := rfl
@[simp] theorem State.advance_trailer (s : State) : (s.advance).trailer = s.trailer := rfl
@[simp] theorem State.advance_errIp (s : State) : (s.advance).errIp = s.errIp := rfl
@[simp] theorem State.advance_errOp (s : State) : (s.advance).errOp = s.errOp := rfl
@[simp] theorem State.advance_fsm (s : State) : (s.advance).fsm = s.fsm := rfl
@[simp] theorem State.advance_ip (s : State) : (s.advance).ip = s.ip := rfl
@[simp] theorem State.advance_bitCnt (s : State) : (s.advance).bitCnt = s.bitCnt := rfl
@[simp] theorem State.advance_bitBuf (s : State) : (s.advance).bitBuf = s.bitBuf := rfl
@[simp] theorem State.advance_op (s : State) : (s.advance).op = s.op := rfl
@[simp] theorem State.advance_cap (s : State) : (s.advance).cap = s.cap := rfl
@[simp] theorem State.advance_bfinal (s : State) : (s.advance).bfinal = s.bfinal := rfl
@[simp] theorem State.advance_btype (s : State) : (s.advance).btype = s.btype := rfl
@[simp] theorem State.advance_hlit (s : State) : (s.advance).hlit = s.hlit := rfl
@[simp] theorem State.advance_hdist (s : State) : (s.advance).hdist = s.hdist := rfl
@[simp] theorem State.advance_hclen (s : State) : (s.advance).hclen = s.hclen := rfl
@[simp] theorem State.advance_clIdx (s : State) : (s.advance).clIdx = s.clIdx := rfl
@[simp] theorem State.advance_prev (s : State) : (s.advance).prev = s.prev := rfl
@[simp] theorem State.advance_clLen (s : State) : (s.advance).clLen = s.clLen := rfl
@[simp] theorem State.advance_lens (s : State) : (s.advance).lens = s.lens := rfl
@[simp] theorem State.advance_clt (s : State) : (s.advance).clt = s.clt := rfl
@[simp] theorem State.advance_litt (s : State) : (s.advance).litt = s.litt := rfl
@[simp] theorem State.advance_distt (s : State) : (s.advance).distt = s.distt := rfl
@[simp] theorem State.advance_inMem (s : State) : (s.advance).inMem = s.inMem := rfl
@[simp] theorem State.advance_outMem (s : State) : (s.advance).outMem = s.outMem := rfl
@[simp] theorem State.advance_pend (s : State) : (s.advance).pend = s.pend := rfl
@[simp] theorem State.advance_refusedMark (s : State) : (s.advance).refusedMark = s.refusedMark := rfl
@[simp] theorem State.advance_readData (s : State) : (s.advance).readData = s.readData := rfl
@[simp] theorem State.advance_epoch (s : State) : (s.advance).epoch = s.epoch + 1 := rfl
@[simp] theorem State.advance_outDraw (s : State) : (s.advance).outDraw = if s.busy then s.outDraw + 1 else s.outDraw := rfl
@[simp] theorem State.advance_script (s : State) : (s.advance).script = s.script := rfl

/-! ## `State.setScript` -/

@[simp] theorem State.setScript_par (s : State) (ms : List Move) : (s.setScript ms).par = s.par := rfl
@[simp] theorem State.setScript_mode (s : State) (ms : List Move) : (s.setScript ms).mode = s.mode := rfl
@[simp] theorem State.setScript_verify (s : State) (ms : List Move) : (s.setScript ms).verify = s.verify := rfl
@[simp] theorem State.setScript_ie (s : State) (ms : List Move) : (s.setScript ms).ie = s.ie := rfl
@[simp] theorem State.setScript_done (s : State) (ms : List Move) : (s.setScript ms).done = s.done := rfl
@[simp] theorem State.setScript_err (s : State) (ms : List Move) : (s.setScript ms).err = s.err := rfl
@[simp] theorem State.setScript_errCode (s : State) (ms : List Move) : (s.setScript ms).errCode = s.errCode := rfl
@[simp] theorem State.setScript_index (s : State) (ms : List Move) : (s.setScript ms).index = s.index := rfl
@[simp] theorem State.setScript_inLen (s : State) (ms : List Move) : (s.setScript ms).inLen = s.inLen := rfl
@[simp] theorem State.setScript_bufSize (s : State) (ms : List Move) : (s.setScript ms).bufSize = s.bufSize := rfl
@[simp] theorem State.setScript_outLen (s : State) (ms : List Move) : (s.setScript ms).outLen = s.outLen := rfl
@[simp] theorem State.setScript_adler (s : State) (ms : List Move) : (s.setScript ms).adler = s.adler := rfl
@[simp] theorem State.setScript_trailer (s : State) (ms : List Move) : (s.setScript ms).trailer = s.trailer := rfl
@[simp] theorem State.setScript_errIp (s : State) (ms : List Move) : (s.setScript ms).errIp = s.errIp := rfl
@[simp] theorem State.setScript_errOp (s : State) (ms : List Move) : (s.setScript ms).errOp = s.errOp := rfl
@[simp] theorem State.setScript_fsm (s : State) (ms : List Move) : (s.setScript ms).fsm = s.fsm := rfl
@[simp] theorem State.setScript_ip (s : State) (ms : List Move) : (s.setScript ms).ip = s.ip := rfl
@[simp] theorem State.setScript_bitCnt (s : State) (ms : List Move) : (s.setScript ms).bitCnt = s.bitCnt := rfl
@[simp] theorem State.setScript_bitBuf (s : State) (ms : List Move) : (s.setScript ms).bitBuf = s.bitBuf := rfl
@[simp] theorem State.setScript_op (s : State) (ms : List Move) : (s.setScript ms).op = s.op := rfl
@[simp] theorem State.setScript_cap (s : State) (ms : List Move) : (s.setScript ms).cap = s.cap := rfl
@[simp] theorem State.setScript_bfinal (s : State) (ms : List Move) : (s.setScript ms).bfinal = s.bfinal := rfl
@[simp] theorem State.setScript_btype (s : State) (ms : List Move) : (s.setScript ms).btype = s.btype := rfl
@[simp] theorem State.setScript_hlit (s : State) (ms : List Move) : (s.setScript ms).hlit = s.hlit := rfl
@[simp] theorem State.setScript_hdist (s : State) (ms : List Move) : (s.setScript ms).hdist = s.hdist := rfl
@[simp] theorem State.setScript_hclen (s : State) (ms : List Move) : (s.setScript ms).hclen = s.hclen := rfl
@[simp] theorem State.setScript_clIdx (s : State) (ms : List Move) : (s.setScript ms).clIdx = s.clIdx := rfl
@[simp] theorem State.setScript_prev (s : State) (ms : List Move) : (s.setScript ms).prev = s.prev := rfl
@[simp] theorem State.setScript_clLen (s : State) (ms : List Move) : (s.setScript ms).clLen = s.clLen := rfl
@[simp] theorem State.setScript_lens (s : State) (ms : List Move) : (s.setScript ms).lens = s.lens := rfl
@[simp] theorem State.setScript_clt (s : State) (ms : List Move) : (s.setScript ms).clt = s.clt := rfl
@[simp] theorem State.setScript_litt (s : State) (ms : List Move) : (s.setScript ms).litt = s.litt := rfl
@[simp] theorem State.setScript_distt (s : State) (ms : List Move) : (s.setScript ms).distt = s.distt := rfl
@[simp] theorem State.setScript_inMem (s : State) (ms : List Move) : (s.setScript ms).inMem = s.inMem := rfl
@[simp] theorem State.setScript_outMem (s : State) (ms : List Move) : (s.setScript ms).outMem = s.outMem := rfl
@[simp] theorem State.setScript_pend (s : State) (ms : List Move) : (s.setScript ms).pend = s.pend := rfl
@[simp] theorem State.setScript_refusedMark (s : State) (ms : List Move) : (s.setScript ms).refusedMark = s.refusedMark := rfl
@[simp] theorem State.setScript_readData (s : State) (ms : List Move) : (s.setScript ms).readData = s.readData := rfl
@[simp] theorem State.setScript_epoch (s : State) (ms : List Move) : (s.setScript ms).epoch = s.epoch := rfl
@[simp] theorem State.setScript_outDraw (s : State) (ms : List Move) : (s.setScript ms).outDraw = s.outDraw := rfl
@[simp] theorem State.setScript_script (s : State) (ms : List Move) : (s.setScript ms).script = ms := rfl

/-! ## `State.setBlock` -/

@[simp] theorem State.setBlock_par (s : State) (f : BitVec 1) (t : BitVec 2) : (s.setBlock f t).par = s.par := rfl
@[simp] theorem State.setBlock_mode (s : State) (f : BitVec 1) (t : BitVec 2) : (s.setBlock f t).mode = s.mode := rfl
@[simp] theorem State.setBlock_verify (s : State) (f : BitVec 1) (t : BitVec 2) : (s.setBlock f t).verify = s.verify := rfl
@[simp] theorem State.setBlock_ie (s : State) (f : BitVec 1) (t : BitVec 2) : (s.setBlock f t).ie = s.ie := rfl
@[simp] theorem State.setBlock_done (s : State) (f : BitVec 1) (t : BitVec 2) : (s.setBlock f t).done = s.done := rfl
@[simp] theorem State.setBlock_err (s : State) (f : BitVec 1) (t : BitVec 2) : (s.setBlock f t).err = s.err := rfl
@[simp] theorem State.setBlock_errCode (s : State) (f : BitVec 1) (t : BitVec 2) : (s.setBlock f t).errCode = s.errCode := rfl
@[simp] theorem State.setBlock_index (s : State) (f : BitVec 1) (t : BitVec 2) : (s.setBlock f t).index = s.index := rfl
@[simp] theorem State.setBlock_inLen (s : State) (f : BitVec 1) (t : BitVec 2) : (s.setBlock f t).inLen = s.inLen := rfl
@[simp] theorem State.setBlock_bufSize (s : State) (f : BitVec 1) (t : BitVec 2) : (s.setBlock f t).bufSize = s.bufSize := rfl
@[simp] theorem State.setBlock_outLen (s : State) (f : BitVec 1) (t : BitVec 2) : (s.setBlock f t).outLen = s.outLen := rfl
@[simp] theorem State.setBlock_adler (s : State) (f : BitVec 1) (t : BitVec 2) : (s.setBlock f t).adler = s.adler := rfl
@[simp] theorem State.setBlock_trailer (s : State) (f : BitVec 1) (t : BitVec 2) : (s.setBlock f t).trailer = s.trailer := rfl
@[simp] theorem State.setBlock_errIp (s : State) (f : BitVec 1) (t : BitVec 2) : (s.setBlock f t).errIp = s.errIp := rfl
@[simp] theorem State.setBlock_errOp (s : State) (f : BitVec 1) (t : BitVec 2) : (s.setBlock f t).errOp = s.errOp := rfl
@[simp] theorem State.setBlock_fsm (s : State) (f : BitVec 1) (t : BitVec 2) : (s.setBlock f t).fsm = s.fsm := rfl
@[simp] theorem State.setBlock_ip (s : State) (f : BitVec 1) (t : BitVec 2) : (s.setBlock f t).ip = s.ip := rfl
@[simp] theorem State.setBlock_bitCnt (s : State) (f : BitVec 1) (t : BitVec 2) : (s.setBlock f t).bitCnt = s.bitCnt := rfl
@[simp] theorem State.setBlock_bitBuf (s : State) (f : BitVec 1) (t : BitVec 2) : (s.setBlock f t).bitBuf = s.bitBuf := rfl
@[simp] theorem State.setBlock_op (s : State) (f : BitVec 1) (t : BitVec 2) : (s.setBlock f t).op = s.op := rfl
@[simp] theorem State.setBlock_cap (s : State) (f : BitVec 1) (t : BitVec 2) : (s.setBlock f t).cap = s.cap := rfl
@[simp] theorem State.setBlock_bfinal (s : State) (f : BitVec 1) (t : BitVec 2) : (s.setBlock f t).bfinal = f := rfl
@[simp] theorem State.setBlock_btype (s : State) (f : BitVec 1) (t : BitVec 2) : (s.setBlock f t).btype = t := rfl
@[simp] theorem State.setBlock_hlit (s : State) (f : BitVec 1) (t : BitVec 2) : (s.setBlock f t).hlit = s.hlit := rfl
@[simp] theorem State.setBlock_hdist (s : State) (f : BitVec 1) (t : BitVec 2) : (s.setBlock f t).hdist = s.hdist := rfl
@[simp] theorem State.setBlock_hclen (s : State) (f : BitVec 1) (t : BitVec 2) : (s.setBlock f t).hclen = s.hclen := rfl
@[simp] theorem State.setBlock_clIdx (s : State) (f : BitVec 1) (t : BitVec 2) : (s.setBlock f t).clIdx = s.clIdx := rfl
@[simp] theorem State.setBlock_prev (s : State) (f : BitVec 1) (t : BitVec 2) : (s.setBlock f t).prev = s.prev := rfl
@[simp] theorem State.setBlock_clLen (s : State) (f : BitVec 1) (t : BitVec 2) : (s.setBlock f t).clLen = s.clLen := rfl
@[simp] theorem State.setBlock_lens (s : State) (f : BitVec 1) (t : BitVec 2) : (s.setBlock f t).lens = s.lens := rfl
@[simp] theorem State.setBlock_clt (s : State) (f : BitVec 1) (t : BitVec 2) : (s.setBlock f t).clt = s.clt := rfl
@[simp] theorem State.setBlock_litt (s : State) (f : BitVec 1) (t : BitVec 2) : (s.setBlock f t).litt = s.litt := rfl
@[simp] theorem State.setBlock_distt (s : State) (f : BitVec 1) (t : BitVec 2) : (s.setBlock f t).distt = s.distt := rfl
@[simp] theorem State.setBlock_inMem (s : State) (f : BitVec 1) (t : BitVec 2) : (s.setBlock f t).inMem = s.inMem := rfl
@[simp] theorem State.setBlock_outMem (s : State) (f : BitVec 1) (t : BitVec 2) : (s.setBlock f t).outMem = s.outMem := rfl
@[simp] theorem State.setBlock_pend (s : State) (f : BitVec 1) (t : BitVec 2) : (s.setBlock f t).pend = s.pend := rfl
@[simp] theorem State.setBlock_refusedMark (s : State) (f : BitVec 1) (t : BitVec 2) : (s.setBlock f t).refusedMark = s.refusedMark := rfl
@[simp] theorem State.setBlock_readData (s : State) (f : BitVec 1) (t : BitVec 2) : (s.setBlock f t).readData = s.readData := rfl
@[simp] theorem State.setBlock_epoch (s : State) (f : BitVec 1) (t : BitVec 2) : (s.setBlock f t).epoch = s.epoch := rfl
@[simp] theorem State.setBlock_outDraw (s : State) (f : BitVec 1) (t : BitVec 2) : (s.setBlock f t).outDraw = s.outDraw := rfl
@[simp] theorem State.setBlock_script (s : State) (f : BitVec 1) (t : BitVec 2) : (s.setBlock f t).script = s.script := rfl

/-! ## `State.selectFixed` -/

@[simp] theorem State.selectFixed_par (s : State) : (s.selectFixed).par = s.par := rfl
@[simp] theorem State.selectFixed_mode (s : State) : (s.selectFixed).mode = s.mode := rfl
@[simp] theorem State.selectFixed_verify (s : State) : (s.selectFixed).verify = s.verify := rfl
@[simp] theorem State.selectFixed_ie (s : State) : (s.selectFixed).ie = s.ie := rfl
@[simp] theorem State.selectFixed_done (s : State) : (s.selectFixed).done = s.done := rfl
@[simp] theorem State.selectFixed_err (s : State) : (s.selectFixed).err = s.err := rfl
@[simp] theorem State.selectFixed_errCode (s : State) : (s.selectFixed).errCode = s.errCode := rfl
@[simp] theorem State.selectFixed_index (s : State) : (s.selectFixed).index = s.index := rfl
@[simp] theorem State.selectFixed_inLen (s : State) : (s.selectFixed).inLen = s.inLen := rfl
@[simp] theorem State.selectFixed_bufSize (s : State) : (s.selectFixed).bufSize = s.bufSize := rfl
@[simp] theorem State.selectFixed_outLen (s : State) : (s.selectFixed).outLen = s.outLen := rfl
@[simp] theorem State.selectFixed_adler (s : State) : (s.selectFixed).adler = s.adler := rfl
@[simp] theorem State.selectFixed_trailer (s : State) : (s.selectFixed).trailer = s.trailer := rfl
@[simp] theorem State.selectFixed_errIp (s : State) : (s.selectFixed).errIp = s.errIp := rfl
@[simp] theorem State.selectFixed_errOp (s : State) : (s.selectFixed).errOp = s.errOp := rfl
@[simp] theorem State.selectFixed_fsm (s : State) : (s.selectFixed).fsm = s.fsm := rfl
@[simp] theorem State.selectFixed_ip (s : State) : (s.selectFixed).ip = s.ip := rfl
@[simp] theorem State.selectFixed_bitCnt (s : State) : (s.selectFixed).bitCnt = s.bitCnt := rfl
@[simp] theorem State.selectFixed_bitBuf (s : State) : (s.selectFixed).bitBuf = s.bitBuf := rfl
@[simp] theorem State.selectFixed_op (s : State) : (s.selectFixed).op = s.op := rfl
@[simp] theorem State.selectFixed_cap (s : State) : (s.selectFixed).cap = s.cap := rfl
@[simp] theorem State.selectFixed_bfinal (s : State) : (s.selectFixed).bfinal = s.bfinal := rfl
@[simp] theorem State.selectFixed_btype (s : State) : (s.selectFixed).btype = s.btype := rfl
@[simp] theorem State.selectFixed_hlit (s : State) : (s.selectFixed).hlit = s.hlit := rfl
@[simp] theorem State.selectFixed_hdist (s : State) : (s.selectFixed).hdist = s.hdist := rfl
@[simp] theorem State.selectFixed_hclen (s : State) : (s.selectFixed).hclen = s.hclen := rfl
@[simp] theorem State.selectFixed_clIdx (s : State) : (s.selectFixed).clIdx = s.clIdx := rfl
@[simp] theorem State.selectFixed_prev (s : State) : (s.selectFixed).prev = s.prev := rfl
@[simp] theorem State.selectFixed_clLen (s : State) : (s.selectFixed).clLen = s.clLen := rfl
@[simp] theorem State.selectFixed_lens (s : State) : (s.selectFixed).lens = s.lens := rfl
@[simp] theorem State.selectFixed_clt (s : State) : (s.selectFixed).clt = s.clt := rfl
@[simp] theorem State.selectFixed_litt (s : State) : (s.selectFixed).litt = flit := rfl
@[simp] theorem State.selectFixed_distt (s : State) : (s.selectFixed).distt = fdist := rfl
@[simp] theorem State.selectFixed_inMem (s : State) : (s.selectFixed).inMem = s.inMem := rfl
@[simp] theorem State.selectFixed_outMem (s : State) : (s.selectFixed).outMem = s.outMem := rfl
@[simp] theorem State.selectFixed_pend (s : State) : (s.selectFixed).pend = s.pend := rfl
@[simp] theorem State.selectFixed_refusedMark (s : State) : (s.selectFixed).refusedMark = s.refusedMark := rfl
@[simp] theorem State.selectFixed_readData (s : State) : (s.selectFixed).readData = s.readData := rfl
@[simp] theorem State.selectFixed_epoch (s : State) : (s.selectFixed).epoch = s.epoch := rfl
@[simp] theorem State.selectFixed_outDraw (s : State) : (s.selectFixed).outDraw = s.outDraw := rfl
@[simp] theorem State.selectFixed_script (s : State) : (s.selectFixed).script = s.script := rfl

/-! ## `State.setCounts` -/

@[simp] theorem State.setCounts_par (s : State) (a b : BitVec 5) (c : BitVec 4) : (s.setCounts a b c).par = s.par := rfl
@[simp] theorem State.setCounts_mode (s : State) (a b : BitVec 5) (c : BitVec 4) : (s.setCounts a b c).mode = s.mode := rfl
@[simp] theorem State.setCounts_verify (s : State) (a b : BitVec 5) (c : BitVec 4) : (s.setCounts a b c).verify = s.verify := rfl
@[simp] theorem State.setCounts_ie (s : State) (a b : BitVec 5) (c : BitVec 4) : (s.setCounts a b c).ie = s.ie := rfl
@[simp] theorem State.setCounts_done (s : State) (a b : BitVec 5) (c : BitVec 4) : (s.setCounts a b c).done = s.done := rfl
@[simp] theorem State.setCounts_err (s : State) (a b : BitVec 5) (c : BitVec 4) : (s.setCounts a b c).err = s.err := rfl
@[simp] theorem State.setCounts_errCode (s : State) (a b : BitVec 5) (c : BitVec 4) : (s.setCounts a b c).errCode = s.errCode := rfl
@[simp] theorem State.setCounts_index (s : State) (a b : BitVec 5) (c : BitVec 4) : (s.setCounts a b c).index = s.index := rfl
@[simp] theorem State.setCounts_inLen (s : State) (a b : BitVec 5) (c : BitVec 4) : (s.setCounts a b c).inLen = s.inLen := rfl
@[simp] theorem State.setCounts_bufSize (s : State) (a b : BitVec 5) (c : BitVec 4) : (s.setCounts a b c).bufSize = s.bufSize := rfl
@[simp] theorem State.setCounts_outLen (s : State) (a b : BitVec 5) (c : BitVec 4) : (s.setCounts a b c).outLen = s.outLen := rfl
@[simp] theorem State.setCounts_adler (s : State) (a b : BitVec 5) (c : BitVec 4) : (s.setCounts a b c).adler = s.adler := rfl
@[simp] theorem State.setCounts_trailer (s : State) (a b : BitVec 5) (c : BitVec 4) : (s.setCounts a b c).trailer = s.trailer := rfl
@[simp] theorem State.setCounts_errIp (s : State) (a b : BitVec 5) (c : BitVec 4) : (s.setCounts a b c).errIp = s.errIp := rfl
@[simp] theorem State.setCounts_errOp (s : State) (a b : BitVec 5) (c : BitVec 4) : (s.setCounts a b c).errOp = s.errOp := rfl
@[simp] theorem State.setCounts_fsm (s : State) (a b : BitVec 5) (c : BitVec 4) : (s.setCounts a b c).fsm = s.fsm := rfl
@[simp] theorem State.setCounts_ip (s : State) (a b : BitVec 5) (c : BitVec 4) : (s.setCounts a b c).ip = s.ip := rfl
@[simp] theorem State.setCounts_bitCnt (s : State) (a b : BitVec 5) (c : BitVec 4) : (s.setCounts a b c).bitCnt = s.bitCnt := rfl
@[simp] theorem State.setCounts_bitBuf (s : State) (a b : BitVec 5) (c : BitVec 4) : (s.setCounts a b c).bitBuf = s.bitBuf := rfl
@[simp] theorem State.setCounts_op (s : State) (a b : BitVec 5) (c : BitVec 4) : (s.setCounts a b c).op = s.op := rfl
@[simp] theorem State.setCounts_cap (s : State) (a b : BitVec 5) (c : BitVec 4) : (s.setCounts a b c).cap = s.cap := rfl
@[simp] theorem State.setCounts_bfinal (s : State) (a b : BitVec 5) (c : BitVec 4) : (s.setCounts a b c).bfinal = s.bfinal := rfl
@[simp] theorem State.setCounts_btype (s : State) (a b : BitVec 5) (c : BitVec 4) : (s.setCounts a b c).btype = s.btype := rfl
@[simp] theorem State.setCounts_hlit (s : State) (a b : BitVec 5) (c : BitVec 4) : (s.setCounts a b c).hlit = BitVec.ofNat 9 (a.toNat + 257) := rfl
@[simp] theorem State.setCounts_hdist (s : State) (a b : BitVec 5) (c : BitVec 4) : (s.setCounts a b c).hdist = BitVec.ofNat 6 (b.toNat + 1) := rfl
@[simp] theorem State.setCounts_hclen (s : State) (a b : BitVec 5) (c : BitVec 4) : (s.setCounts a b c).hclen = BitVec.ofNat 5 (c.toNat + 4) := rfl
@[simp] theorem State.setCounts_clIdx (s : State) (a b : BitVec 5) (c : BitVec 4) : (s.setCounts a b c).clIdx = s.clIdx := rfl
@[simp] theorem State.setCounts_prev (s : State) (a b : BitVec 5) (c : BitVec 4) : (s.setCounts a b c).prev = s.prev := rfl
@[simp] theorem State.setCounts_clLen (s : State) (a b : BitVec 5) (c : BitVec 4) : (s.setCounts a b c).clLen = s.clLen := rfl
@[simp] theorem State.setCounts_lens (s : State) (a b : BitVec 5) (c : BitVec 4) : (s.setCounts a b c).lens = s.lens := rfl
@[simp] theorem State.setCounts_clt (s : State) (a b : BitVec 5) (c : BitVec 4) : (s.setCounts a b c).clt = s.clt := rfl
@[simp] theorem State.setCounts_litt (s : State) (a b : BitVec 5) (c : BitVec 4) : (s.setCounts a b c).litt = s.litt := rfl
@[simp] theorem State.setCounts_distt (s : State) (a b : BitVec 5) (c : BitVec 4) : (s.setCounts a b c).distt = s.distt := rfl
@[simp] theorem State.setCounts_inMem (s : State) (a b : BitVec 5) (c : BitVec 4) : (s.setCounts a b c).inMem = s.inMem := rfl
@[simp] theorem State.setCounts_outMem (s : State) (a b : BitVec 5) (c : BitVec 4) : (s.setCounts a b c).outMem = s.outMem := rfl
@[simp] theorem State.setCounts_pend (s : State) (a b : BitVec 5) (c : BitVec 4) : (s.setCounts a b c).pend = s.pend := rfl
@[simp] theorem State.setCounts_refusedMark (s : State) (a b : BitVec 5) (c : BitVec 4) : (s.setCounts a b c).refusedMark = s.refusedMark := rfl
@[simp] theorem State.setCounts_readData (s : State) (a b : BitVec 5) (c : BitVec 4) : (s.setCounts a b c).readData = s.readData := rfl
@[simp] theorem State.setCounts_epoch (s : State) (a b : BitVec 5) (c : BitVec 4) : (s.setCounts a b c).epoch = s.epoch := rfl
@[simp] theorem State.setCounts_outDraw (s : State) (a b : BitVec 5) (c : BitVec 4) : (s.setCounts a b c).outDraw = s.outDraw := rfl
@[simp] theorem State.setCounts_script (s : State) (a b : BitVec 5) (c : BitVec 4) : (s.setCounts a b c).script = s.script := rfl

/-! ## `State.setClLen` -/

@[simp] theorem State.setClLen_par (s : State) (i : Nat) (l : BitVec 3) : (s.setClLen i l).par = s.par := rfl
@[simp] theorem State.setClLen_mode (s : State) (i : Nat) (l : BitVec 3) : (s.setClLen i l).mode = s.mode := rfl
@[simp] theorem State.setClLen_verify (s : State) (i : Nat) (l : BitVec 3) : (s.setClLen i l).verify = s.verify := rfl
@[simp] theorem State.setClLen_ie (s : State) (i : Nat) (l : BitVec 3) : (s.setClLen i l).ie = s.ie := rfl
@[simp] theorem State.setClLen_done (s : State) (i : Nat) (l : BitVec 3) : (s.setClLen i l).done = s.done := rfl
@[simp] theorem State.setClLen_err (s : State) (i : Nat) (l : BitVec 3) : (s.setClLen i l).err = s.err := rfl
@[simp] theorem State.setClLen_errCode (s : State) (i : Nat) (l : BitVec 3) : (s.setClLen i l).errCode = s.errCode := rfl
@[simp] theorem State.setClLen_index (s : State) (i : Nat) (l : BitVec 3) : (s.setClLen i l).index = s.index := rfl
@[simp] theorem State.setClLen_inLen (s : State) (i : Nat) (l : BitVec 3) : (s.setClLen i l).inLen = s.inLen := rfl
@[simp] theorem State.setClLen_bufSize (s : State) (i : Nat) (l : BitVec 3) : (s.setClLen i l).bufSize = s.bufSize := rfl
@[simp] theorem State.setClLen_outLen (s : State) (i : Nat) (l : BitVec 3) : (s.setClLen i l).outLen = s.outLen := rfl
@[simp] theorem State.setClLen_adler (s : State) (i : Nat) (l : BitVec 3) : (s.setClLen i l).adler = s.adler := rfl
@[simp] theorem State.setClLen_trailer (s : State) (i : Nat) (l : BitVec 3) : (s.setClLen i l).trailer = s.trailer := rfl
@[simp] theorem State.setClLen_errIp (s : State) (i : Nat) (l : BitVec 3) : (s.setClLen i l).errIp = s.errIp := rfl
@[simp] theorem State.setClLen_errOp (s : State) (i : Nat) (l : BitVec 3) : (s.setClLen i l).errOp = s.errOp := rfl
@[simp] theorem State.setClLen_fsm (s : State) (i : Nat) (l : BitVec 3) : (s.setClLen i l).fsm = s.fsm := rfl
@[simp] theorem State.setClLen_ip (s : State) (i : Nat) (l : BitVec 3) : (s.setClLen i l).ip = s.ip := rfl
@[simp] theorem State.setClLen_bitCnt (s : State) (i : Nat) (l : BitVec 3) : (s.setClLen i l).bitCnt = s.bitCnt := rfl
@[simp] theorem State.setClLen_bitBuf (s : State) (i : Nat) (l : BitVec 3) : (s.setClLen i l).bitBuf = s.bitBuf := rfl
@[simp] theorem State.setClLen_op (s : State) (i : Nat) (l : BitVec 3) : (s.setClLen i l).op = s.op := rfl
@[simp] theorem State.setClLen_cap (s : State) (i : Nat) (l : BitVec 3) : (s.setClLen i l).cap = s.cap := rfl
@[simp] theorem State.setClLen_bfinal (s : State) (i : Nat) (l : BitVec 3) : (s.setClLen i l).bfinal = s.bfinal := rfl
@[simp] theorem State.setClLen_btype (s : State) (i : Nat) (l : BitVec 3) : (s.setClLen i l).btype = s.btype := rfl
@[simp] theorem State.setClLen_hlit (s : State) (i : Nat) (l : BitVec 3) : (s.setClLen i l).hlit = s.hlit := rfl
@[simp] theorem State.setClLen_hdist (s : State) (i : Nat) (l : BitVec 3) : (s.setClLen i l).hdist = s.hdist := rfl
@[simp] theorem State.setClLen_hclen (s : State) (i : Nat) (l : BitVec 3) : (s.setClLen i l).hclen = s.hclen := rfl
@[simp] theorem State.setClLen_clIdx (s : State) (i : Nat) (l : BitVec 3) : (s.setClLen i l).clIdx = s.clIdx := rfl
@[simp] theorem State.setClLen_prev (s : State) (i : Nat) (l : BitVec 3) : (s.setClLen i l).prev = s.prev := rfl
@[simp] theorem State.setClLen_clLen (s : State) (i : Nat) (l : BitVec 3) : (s.setClLen i l).clLen = s.clLen.setIfInBounds (clOrder.getD i 19) l := rfl
@[simp] theorem State.setClLen_lens (s : State) (i : Nat) (l : BitVec 3) : (s.setClLen i l).lens = s.lens := rfl
@[simp] theorem State.setClLen_clt (s : State) (i : Nat) (l : BitVec 3) : (s.setClLen i l).clt = s.clt := rfl
@[simp] theorem State.setClLen_litt (s : State) (i : Nat) (l : BitVec 3) : (s.setClLen i l).litt = s.litt := rfl
@[simp] theorem State.setClLen_distt (s : State) (i : Nat) (l : BitVec 3) : (s.setClLen i l).distt = s.distt := rfl
@[simp] theorem State.setClLen_inMem (s : State) (i : Nat) (l : BitVec 3) : (s.setClLen i l).inMem = s.inMem := rfl
@[simp] theorem State.setClLen_outMem (s : State) (i : Nat) (l : BitVec 3) : (s.setClLen i l).outMem = s.outMem := rfl
@[simp] theorem State.setClLen_pend (s : State) (i : Nat) (l : BitVec 3) : (s.setClLen i l).pend = s.pend := rfl
@[simp] theorem State.setClLen_refusedMark (s : State) (i : Nat) (l : BitVec 3) : (s.setClLen i l).refusedMark = s.refusedMark := rfl
@[simp] theorem State.setClLen_readData (s : State) (i : Nat) (l : BitVec 3) : (s.setClLen i l).readData = s.readData := rfl
@[simp] theorem State.setClLen_epoch (s : State) (i : Nat) (l : BitVec 3) : (s.setClLen i l).epoch = s.epoch := rfl
@[simp] theorem State.setClLen_outDraw (s : State) (i : Nat) (l : BitVec 3) : (s.setClLen i l).outDraw = s.outDraw := rfl
@[simp] theorem State.setClLen_script (s : State) (i : Nat) (l : BitVec 3) : (s.setClLen i l).script = s.script := rfl

/-! ## `State.endDynHeader` -/

@[simp] theorem State.endDynHeader_par (s : State) (n : Nat) : (s.endDynHeader n).par = s.par := rfl
@[simp] theorem State.endDynHeader_mode (s : State) (n : Nat) : (s.endDynHeader n).mode = s.mode := rfl
@[simp] theorem State.endDynHeader_verify (s : State) (n : Nat) : (s.endDynHeader n).verify = s.verify := rfl
@[simp] theorem State.endDynHeader_ie (s : State) (n : Nat) : (s.endDynHeader n).ie = s.ie := rfl
@[simp] theorem State.endDynHeader_done (s : State) (n : Nat) : (s.endDynHeader n).done = s.done := rfl
@[simp] theorem State.endDynHeader_err (s : State) (n : Nat) : (s.endDynHeader n).err = s.err := rfl
@[simp] theorem State.endDynHeader_errCode (s : State) (n : Nat) : (s.endDynHeader n).errCode = s.errCode := rfl
@[simp] theorem State.endDynHeader_index (s : State) (n : Nat) : (s.endDynHeader n).index = s.index := rfl
@[simp] theorem State.endDynHeader_inLen (s : State) (n : Nat) : (s.endDynHeader n).inLen = s.inLen := rfl
@[simp] theorem State.endDynHeader_bufSize (s : State) (n : Nat) : (s.endDynHeader n).bufSize = s.bufSize := rfl
@[simp] theorem State.endDynHeader_outLen (s : State) (n : Nat) : (s.endDynHeader n).outLen = s.outLen := rfl
@[simp] theorem State.endDynHeader_adler (s : State) (n : Nat) : (s.endDynHeader n).adler = s.adler := rfl
@[simp] theorem State.endDynHeader_trailer (s : State) (n : Nat) : (s.endDynHeader n).trailer = s.trailer := rfl
@[simp] theorem State.endDynHeader_errIp (s : State) (n : Nat) : (s.endDynHeader n).errIp = s.errIp := rfl
@[simp] theorem State.endDynHeader_errOp (s : State) (n : Nat) : (s.endDynHeader n).errOp = s.errOp := rfl
@[simp] theorem State.endDynHeader_fsm (s : State) (n : Nat) : (s.endDynHeader n).fsm = s.fsm := rfl
@[simp] theorem State.endDynHeader_ip (s : State) (n : Nat) : (s.endDynHeader n).ip = s.ip := rfl
@[simp] theorem State.endDynHeader_bitCnt (s : State) (n : Nat) : (s.endDynHeader n).bitCnt = s.bitCnt := rfl
@[simp] theorem State.endDynHeader_bitBuf (s : State) (n : Nat) : (s.endDynHeader n).bitBuf = s.bitBuf := rfl
@[simp] theorem State.endDynHeader_op (s : State) (n : Nat) : (s.endDynHeader n).op = s.op := rfl
@[simp] theorem State.endDynHeader_cap (s : State) (n : Nat) : (s.endDynHeader n).cap = s.cap := rfl
@[simp] theorem State.endDynHeader_bfinal (s : State) (n : Nat) : (s.endDynHeader n).bfinal = s.bfinal := rfl
@[simp] theorem State.endDynHeader_btype (s : State) (n : Nat) : (s.endDynHeader n).btype = s.btype := rfl
@[simp] theorem State.endDynHeader_hlit (s : State) (n : Nat) : (s.endDynHeader n).hlit = s.hlit := rfl
@[simp] theorem State.endDynHeader_hdist (s : State) (n : Nat) : (s.endDynHeader n).hdist = s.hdist := rfl
@[simp] theorem State.endDynHeader_hclen (s : State) (n : Nat) : (s.endDynHeader n).hclen = s.hclen := rfl
@[simp] theorem State.endDynHeader_clIdx (s : State) (n : Nat) : (s.endDynHeader n).clIdx = 0 := rfl
@[simp] theorem State.endDynHeader_prev (s : State) (n : Nat) : (s.endDynHeader n).prev = 0 := rfl
@[simp] theorem State.endDynHeader_clLen (s : State) (n : Nat) : (s.endDynHeader n).clLen = zeroClLens (clOrder.drop n) s.clLen := rfl
@[simp] theorem State.endDynHeader_lens (s : State) (n : Nat) : (s.endDynHeader n).lens = Vector.replicate 320 0 := rfl
@[simp] theorem State.endDynHeader_clt (s : State) (n : Nat) : (s.endDynHeader n).clt = buildTable ((zeroClLens (clOrder.drop n) s.clLen).toList.map BitVec.toNat) := rfl
@[simp] theorem State.endDynHeader_litt (s : State) (n : Nat) : (s.endDynHeader n).litt = s.litt := rfl
@[simp] theorem State.endDynHeader_distt (s : State) (n : Nat) : (s.endDynHeader n).distt = s.distt := rfl
@[simp] theorem State.endDynHeader_inMem (s : State) (n : Nat) : (s.endDynHeader n).inMem = s.inMem := rfl
@[simp] theorem State.endDynHeader_outMem (s : State) (n : Nat) : (s.endDynHeader n).outMem = s.outMem := rfl
@[simp] theorem State.endDynHeader_pend (s : State) (n : Nat) : (s.endDynHeader n).pend = s.pend := rfl
@[simp] theorem State.endDynHeader_refusedMark (s : State) (n : Nat) : (s.endDynHeader n).refusedMark = s.refusedMark := rfl
@[simp] theorem State.endDynHeader_readData (s : State) (n : Nat) : (s.endDynHeader n).readData = s.readData := rfl
@[simp] theorem State.endDynHeader_epoch (s : State) (n : Nat) : (s.endDynHeader n).epoch = s.epoch := rfl
@[simp] theorem State.endDynHeader_outDraw (s : State) (n : Nat) : (s.endDynHeader n).outDraw = s.outDraw := rfl
@[simp] theorem State.endDynHeader_script (s : State) (n : Nat) : (s.endDynHeader n).script = s.script := rfl

/-! ## `State.buildTables` -/

@[simp] theorem State.buildTables_par (s : State) : (s.buildTables).par = s.par := rfl
@[simp] theorem State.buildTables_mode (s : State) : (s.buildTables).mode = s.mode := rfl
@[simp] theorem State.buildTables_verify (s : State) : (s.buildTables).verify = s.verify := rfl
@[simp] theorem State.buildTables_ie (s : State) : (s.buildTables).ie = s.ie := rfl
@[simp] theorem State.buildTables_done (s : State) : (s.buildTables).done = s.done := rfl
@[simp] theorem State.buildTables_err (s : State) : (s.buildTables).err = s.err := rfl
@[simp] theorem State.buildTables_errCode (s : State) : (s.buildTables).errCode = s.errCode := rfl
@[simp] theorem State.buildTables_index (s : State) : (s.buildTables).index = s.index := rfl
@[simp] theorem State.buildTables_inLen (s : State) : (s.buildTables).inLen = s.inLen := rfl
@[simp] theorem State.buildTables_bufSize (s : State) : (s.buildTables).bufSize = s.bufSize := rfl
@[simp] theorem State.buildTables_outLen (s : State) : (s.buildTables).outLen = s.outLen := rfl
@[simp] theorem State.buildTables_adler (s : State) : (s.buildTables).adler = s.adler := rfl
@[simp] theorem State.buildTables_trailer (s : State) : (s.buildTables).trailer = s.trailer := rfl
@[simp] theorem State.buildTables_errIp (s : State) : (s.buildTables).errIp = s.errIp := rfl
@[simp] theorem State.buildTables_errOp (s : State) : (s.buildTables).errOp = s.errOp := rfl
@[simp] theorem State.buildTables_fsm (s : State) : (s.buildTables).fsm = s.fsm := rfl
@[simp] theorem State.buildTables_ip (s : State) : (s.buildTables).ip = s.ip := rfl
@[simp] theorem State.buildTables_bitCnt (s : State) : (s.buildTables).bitCnt = s.bitCnt := rfl
@[simp] theorem State.buildTables_bitBuf (s : State) : (s.buildTables).bitBuf = s.bitBuf := rfl
@[simp] theorem State.buildTables_op (s : State) : (s.buildTables).op = s.op := rfl
@[simp] theorem State.buildTables_cap (s : State) : (s.buildTables).cap = s.cap := rfl
@[simp] theorem State.buildTables_bfinal (s : State) : (s.buildTables).bfinal = s.bfinal := rfl
@[simp] theorem State.buildTables_btype (s : State) : (s.buildTables).btype = s.btype := rfl
@[simp] theorem State.buildTables_hlit (s : State) : (s.buildTables).hlit = s.hlit := rfl
@[simp] theorem State.buildTables_hdist (s : State) : (s.buildTables).hdist = s.hdist := rfl
@[simp] theorem State.buildTables_hclen (s : State) : (s.buildTables).hclen = s.hclen := rfl
@[simp] theorem State.buildTables_clIdx (s : State) : (s.buildTables).clIdx = s.clIdx := rfl
@[simp] theorem State.buildTables_prev (s : State) : (s.buildTables).prev = s.prev := rfl
@[simp] theorem State.buildTables_clLen (s : State) : (s.buildTables).clLen = s.clLen := rfl
@[simp] theorem State.buildTables_lens (s : State) : (s.buildTables).lens = s.lens := rfl
@[simp] theorem State.buildTables_clt (s : State) : (s.buildTables).clt = s.clt := rfl
@[simp] theorem State.buildTables_litt (s : State) : (s.buildTables).litt = buildTable s.litLenLengths := rfl
@[simp] theorem State.buildTables_distt (s : State) : (s.buildTables).distt = buildTable s.distanceLengths := rfl
@[simp] theorem State.buildTables_inMem (s : State) : (s.buildTables).inMem = s.inMem := rfl
@[simp] theorem State.buildTables_outMem (s : State) : (s.buildTables).outMem = s.outMem := rfl
@[simp] theorem State.buildTables_pend (s : State) : (s.buildTables).pend = s.pend := rfl
@[simp] theorem State.buildTables_refusedMark (s : State) : (s.buildTables).refusedMark = s.refusedMark := rfl
@[simp] theorem State.buildTables_readData (s : State) : (s.buildTables).readData = s.readData := rfl
@[simp] theorem State.buildTables_epoch (s : State) : (s.buildTables).epoch = s.epoch := rfl
@[simp] theorem State.buildTables_outDraw (s : State) : (s.buildTables).outDraw = s.outDraw := rfl
@[simp] theorem State.buildTables_script (s : State) : (s.buildTables).script = s.script := rfl

/-! ## `State.putLens` -/

@[simp] theorem State.putLens_par (s : State) (n : Nat) (v p : BitVec 4) : (s.putLens n v p).par = s.par := rfl
@[simp] theorem State.putLens_mode (s : State) (n : Nat) (v p : BitVec 4) : (s.putLens n v p).mode = s.mode := rfl
@[simp] theorem State.putLens_verify (s : State) (n : Nat) (v p : BitVec 4) : (s.putLens n v p).verify = s.verify := rfl
@[simp] theorem State.putLens_ie (s : State) (n : Nat) (v p : BitVec 4) : (s.putLens n v p).ie = s.ie := rfl
@[simp] theorem State.putLens_done (s : State) (n : Nat) (v p : BitVec 4) : (s.putLens n v p).done = s.done := rfl
@[simp] theorem State.putLens_err (s : State) (n : Nat) (v p : BitVec 4) : (s.putLens n v p).err = s.err := rfl
@[simp] theorem State.putLens_errCode (s : State) (n : Nat) (v p : BitVec 4) : (s.putLens n v p).errCode = s.errCode := rfl
@[simp] theorem State.putLens_index (s : State) (n : Nat) (v p : BitVec 4) : (s.putLens n v p).index = s.index := rfl
@[simp] theorem State.putLens_inLen (s : State) (n : Nat) (v p : BitVec 4) : (s.putLens n v p).inLen = s.inLen := rfl
@[simp] theorem State.putLens_bufSize (s : State) (n : Nat) (v p : BitVec 4) : (s.putLens n v p).bufSize = s.bufSize := rfl
@[simp] theorem State.putLens_outLen (s : State) (n : Nat) (v p : BitVec 4) : (s.putLens n v p).outLen = s.outLen := rfl
@[simp] theorem State.putLens_adler (s : State) (n : Nat) (v p : BitVec 4) : (s.putLens n v p).adler = s.adler := rfl
@[simp] theorem State.putLens_trailer (s : State) (n : Nat) (v p : BitVec 4) : (s.putLens n v p).trailer = s.trailer := rfl
@[simp] theorem State.putLens_errIp (s : State) (n : Nat) (v p : BitVec 4) : (s.putLens n v p).errIp = s.errIp := rfl
@[simp] theorem State.putLens_errOp (s : State) (n : Nat) (v p : BitVec 4) : (s.putLens n v p).errOp = s.errOp := rfl
@[simp] theorem State.putLens_fsm (s : State) (n : Nat) (v p : BitVec 4) : (s.putLens n v p).fsm = s.fsm := rfl
@[simp] theorem State.putLens_ip (s : State) (n : Nat) (v p : BitVec 4) : (s.putLens n v p).ip = s.ip := rfl
@[simp] theorem State.putLens_bitCnt (s : State) (n : Nat) (v p : BitVec 4) : (s.putLens n v p).bitCnt = s.bitCnt := rfl
@[simp] theorem State.putLens_bitBuf (s : State) (n : Nat) (v p : BitVec 4) : (s.putLens n v p).bitBuf = s.bitBuf := rfl
@[simp] theorem State.putLens_op (s : State) (n : Nat) (v p : BitVec 4) : (s.putLens n v p).op = s.op := rfl
@[simp] theorem State.putLens_cap (s : State) (n : Nat) (v p : BitVec 4) : (s.putLens n v p).cap = s.cap := rfl
@[simp] theorem State.putLens_bfinal (s : State) (n : Nat) (v p : BitVec 4) : (s.putLens n v p).bfinal = s.bfinal := rfl
@[simp] theorem State.putLens_btype (s : State) (n : Nat) (v p : BitVec 4) : (s.putLens n v p).btype = s.btype := rfl
@[simp] theorem State.putLens_hlit (s : State) (n : Nat) (v p : BitVec 4) : (s.putLens n v p).hlit = s.hlit := rfl
@[simp] theorem State.putLens_hdist (s : State) (n : Nat) (v p : BitVec 4) : (s.putLens n v p).hdist = s.hdist := rfl
@[simp] theorem State.putLens_hclen (s : State) (n : Nat) (v p : BitVec 4) : (s.putLens n v p).hclen = s.hclen := rfl
@[simp] theorem State.putLens_clIdx (s : State) (n : Nat) (v p : BitVec 4) : (s.putLens n v p).clIdx = BitVec.ofNat 9 (s.clIdx.toNat + n) := rfl
@[simp] theorem State.putLens_prev (s : State) (n : Nat) (v p : BitVec 4) : (s.putLens n v p).prev = p := rfl
@[simp] theorem State.putLens_clLen (s : State) (n : Nat) (v p : BitVec 4) : (s.putLens n v p).clLen = s.clLen := rfl
@[simp] theorem State.putLens_lens (s : State) (n : Nat) (v p : BitVec 4) : (s.putLens n v p).lens = fillLens v n s.clIdx.toNat s.lens := rfl
@[simp] theorem State.putLens_clt (s : State) (n : Nat) (v p : BitVec 4) : (s.putLens n v p).clt = s.clt := rfl
@[simp] theorem State.putLens_litt (s : State) (n : Nat) (v p : BitVec 4) : (s.putLens n v p).litt = s.litt := rfl
@[simp] theorem State.putLens_distt (s : State) (n : Nat) (v p : BitVec 4) : (s.putLens n v p).distt = s.distt := rfl
@[simp] theorem State.putLens_inMem (s : State) (n : Nat) (v p : BitVec 4) : (s.putLens n v p).inMem = s.inMem := rfl
@[simp] theorem State.putLens_outMem (s : State) (n : Nat) (v p : BitVec 4) : (s.putLens n v p).outMem = s.outMem := rfl
@[simp] theorem State.putLens_pend (s : State) (n : Nat) (v p : BitVec 4) : (s.putLens n v p).pend = s.pend := rfl
@[simp] theorem State.putLens_refusedMark (s : State) (n : Nat) (v p : BitVec 4) : (s.putLens n v p).refusedMark = s.refusedMark := rfl
@[simp] theorem State.putLens_readData (s : State) (n : Nat) (v p : BitVec 4) : (s.putLens n v p).readData = s.readData := rfl
@[simp] theorem State.putLens_epoch (s : State) (n : Nat) (v p : BitVec 4) : (s.putLens n v p).epoch = s.epoch := rfl
@[simp] theorem State.putLens_outDraw (s : State) (n : Nat) (v p : BitVec 4) : (s.putLens n v p).outDraw = s.outDraw := rfl
@[simp] theorem State.putLens_script (s : State) (n : Nat) (v p : BitVec 4) : (s.putLens n v p).script = s.script := rfl

/-! ## `State.loadAdler` -/

@[simp] theorem State.loadAdler_par (s : State) : (s.loadAdler).par = s.par := rfl
@[simp] theorem State.loadAdler_mode (s : State) : (s.loadAdler).mode = s.mode := rfl
@[simp] theorem State.loadAdler_verify (s : State) : (s.loadAdler).verify = s.verify := rfl
@[simp] theorem State.loadAdler_ie (s : State) : (s.loadAdler).ie = s.ie := rfl
@[simp] theorem State.loadAdler_done (s : State) : (s.loadAdler).done = s.done := rfl
@[simp] theorem State.loadAdler_err (s : State) : (s.loadAdler).err = s.err := rfl
@[simp] theorem State.loadAdler_errCode (s : State) : (s.loadAdler).errCode = s.errCode := rfl
@[simp] theorem State.loadAdler_index (s : State) : (s.loadAdler).index = s.index := rfl
@[simp] theorem State.loadAdler_inLen (s : State) : (s.loadAdler).inLen = s.inLen := rfl
@[simp] theorem State.loadAdler_bufSize (s : State) : (s.loadAdler).bufSize = s.bufSize := rfl
@[simp] theorem State.loadAdler_outLen (s : State) : (s.loadAdler).outLen = s.outLen := rfl
@[simp] theorem State.loadAdler_adler (s : State) : (s.loadAdler).adler = adlerCalc (s.outBytes s.op.toNat 0) := rfl
@[simp] theorem State.loadAdler_trailer (s : State) : (s.loadAdler).trailer = s.trailer := rfl
@[simp] theorem State.loadAdler_errIp (s : State) : (s.loadAdler).errIp = s.errIp := rfl
@[simp] theorem State.loadAdler_errOp (s : State) : (s.loadAdler).errOp = s.errOp := rfl
@[simp] theorem State.loadAdler_fsm (s : State) : (s.loadAdler).fsm = s.fsm := rfl
@[simp] theorem State.loadAdler_ip (s : State) : (s.loadAdler).ip = s.ip := rfl
@[simp] theorem State.loadAdler_bitCnt (s : State) : (s.loadAdler).bitCnt = s.bitCnt := rfl
@[simp] theorem State.loadAdler_bitBuf (s : State) : (s.loadAdler).bitBuf = s.bitBuf := rfl
@[simp] theorem State.loadAdler_op (s : State) : (s.loadAdler).op = s.op := rfl
@[simp] theorem State.loadAdler_cap (s : State) : (s.loadAdler).cap = s.cap := rfl
@[simp] theorem State.loadAdler_bfinal (s : State) : (s.loadAdler).bfinal = s.bfinal := rfl
@[simp] theorem State.loadAdler_btype (s : State) : (s.loadAdler).btype = s.btype := rfl
@[simp] theorem State.loadAdler_hlit (s : State) : (s.loadAdler).hlit = s.hlit := rfl
@[simp] theorem State.loadAdler_hdist (s : State) : (s.loadAdler).hdist = s.hdist := rfl
@[simp] theorem State.loadAdler_hclen (s : State) : (s.loadAdler).hclen = s.hclen := rfl
@[simp] theorem State.loadAdler_clIdx (s : State) : (s.loadAdler).clIdx = s.clIdx := rfl
@[simp] theorem State.loadAdler_prev (s : State) : (s.loadAdler).prev = s.prev := rfl
@[simp] theorem State.loadAdler_clLen (s : State) : (s.loadAdler).clLen = s.clLen := rfl
@[simp] theorem State.loadAdler_lens (s : State) : (s.loadAdler).lens = s.lens := rfl
@[simp] theorem State.loadAdler_clt (s : State) : (s.loadAdler).clt = s.clt := rfl
@[simp] theorem State.loadAdler_litt (s : State) : (s.loadAdler).litt = s.litt := rfl
@[simp] theorem State.loadAdler_distt (s : State) : (s.loadAdler).distt = s.distt := rfl
@[simp] theorem State.loadAdler_inMem (s : State) : (s.loadAdler).inMem = s.inMem := rfl
@[simp] theorem State.loadAdler_outMem (s : State) : (s.loadAdler).outMem = s.outMem := rfl
@[simp] theorem State.loadAdler_pend (s : State) : (s.loadAdler).pend = s.pend := rfl
@[simp] theorem State.loadAdler_refusedMark (s : State) : (s.loadAdler).refusedMark = s.refusedMark := rfl
@[simp] theorem State.loadAdler_readData (s : State) : (s.loadAdler).readData = s.readData := rfl
@[simp] theorem State.loadAdler_epoch (s : State) : (s.loadAdler).epoch = s.epoch := rfl
@[simp] theorem State.loadAdler_outDraw (s : State) : (s.loadAdler).outDraw = s.outDraw := rfl
@[simp] theorem State.loadAdler_script (s : State) : (s.loadAdler).script = s.script := rfl

/-! ## `State.loadTrailer` -/

@[simp] theorem State.loadTrailer_par (s : State) (w : Word) : (s.loadTrailer w).par = s.par := rfl
@[simp] theorem State.loadTrailer_mode (s : State) (w : Word) : (s.loadTrailer w).mode = s.mode := rfl
@[simp] theorem State.loadTrailer_verify (s : State) (w : Word) : (s.loadTrailer w).verify = s.verify := rfl
@[simp] theorem State.loadTrailer_ie (s : State) (w : Word) : (s.loadTrailer w).ie = s.ie := rfl
@[simp] theorem State.loadTrailer_done (s : State) (w : Word) : (s.loadTrailer w).done = s.done := rfl
@[simp] theorem State.loadTrailer_err (s : State) (w : Word) : (s.loadTrailer w).err = s.err := rfl
@[simp] theorem State.loadTrailer_errCode (s : State) (w : Word) : (s.loadTrailer w).errCode = s.errCode := rfl
@[simp] theorem State.loadTrailer_index (s : State) (w : Word) : (s.loadTrailer w).index = s.index := rfl
@[simp] theorem State.loadTrailer_inLen (s : State) (w : Word) : (s.loadTrailer w).inLen = s.inLen := rfl
@[simp] theorem State.loadTrailer_bufSize (s : State) (w : Word) : (s.loadTrailer w).bufSize = s.bufSize := rfl
@[simp] theorem State.loadTrailer_outLen (s : State) (w : Word) : (s.loadTrailer w).outLen = s.outLen := rfl
@[simp] theorem State.loadTrailer_adler (s : State) (w : Word) : (s.loadTrailer w).adler = s.adler := rfl
@[simp] theorem State.loadTrailer_trailer (s : State) (w : Word) : (s.loadTrailer w).trailer = w := rfl
@[simp] theorem State.loadTrailer_errIp (s : State) (w : Word) : (s.loadTrailer w).errIp = s.errIp := rfl
@[simp] theorem State.loadTrailer_errOp (s : State) (w : Word) : (s.loadTrailer w).errOp = s.errOp := rfl
@[simp] theorem State.loadTrailer_fsm (s : State) (w : Word) : (s.loadTrailer w).fsm = s.fsm := rfl
@[simp] theorem State.loadTrailer_ip (s : State) (w : Word) : (s.loadTrailer w).ip = s.ip := rfl
@[simp] theorem State.loadTrailer_bitCnt (s : State) (w : Word) : (s.loadTrailer w).bitCnt = s.bitCnt := rfl
@[simp] theorem State.loadTrailer_bitBuf (s : State) (w : Word) : (s.loadTrailer w).bitBuf = s.bitBuf := rfl
@[simp] theorem State.loadTrailer_op (s : State) (w : Word) : (s.loadTrailer w).op = s.op := rfl
@[simp] theorem State.loadTrailer_cap (s : State) (w : Word) : (s.loadTrailer w).cap = s.cap := rfl
@[simp] theorem State.loadTrailer_bfinal (s : State) (w : Word) : (s.loadTrailer w).bfinal = s.bfinal := rfl
@[simp] theorem State.loadTrailer_btype (s : State) (w : Word) : (s.loadTrailer w).btype = s.btype := rfl
@[simp] theorem State.loadTrailer_hlit (s : State) (w : Word) : (s.loadTrailer w).hlit = s.hlit := rfl
@[simp] theorem State.loadTrailer_hdist (s : State) (w : Word) : (s.loadTrailer w).hdist = s.hdist := rfl
@[simp] theorem State.loadTrailer_hclen (s : State) (w : Word) : (s.loadTrailer w).hclen = s.hclen := rfl
@[simp] theorem State.loadTrailer_clIdx (s : State) (w : Word) : (s.loadTrailer w).clIdx = s.clIdx := rfl
@[simp] theorem State.loadTrailer_prev (s : State) (w : Word) : (s.loadTrailer w).prev = s.prev := rfl
@[simp] theorem State.loadTrailer_clLen (s : State) (w : Word) : (s.loadTrailer w).clLen = s.clLen := rfl
@[simp] theorem State.loadTrailer_lens (s : State) (w : Word) : (s.loadTrailer w).lens = s.lens := rfl
@[simp] theorem State.loadTrailer_clt (s : State) (w : Word) : (s.loadTrailer w).clt = s.clt := rfl
@[simp] theorem State.loadTrailer_litt (s : State) (w : Word) : (s.loadTrailer w).litt = s.litt := rfl
@[simp] theorem State.loadTrailer_distt (s : State) (w : Word) : (s.loadTrailer w).distt = s.distt := rfl
@[simp] theorem State.loadTrailer_inMem (s : State) (w : Word) : (s.loadTrailer w).inMem = s.inMem := rfl
@[simp] theorem State.loadTrailer_outMem (s : State) (w : Word) : (s.loadTrailer w).outMem = s.outMem := rfl
@[simp] theorem State.loadTrailer_pend (s : State) (w : Word) : (s.loadTrailer w).pend = s.pend := rfl
@[simp] theorem State.loadTrailer_refusedMark (s : State) (w : Word) : (s.loadTrailer w).refusedMark = s.refusedMark := rfl
@[simp] theorem State.loadTrailer_readData (s : State) (w : Word) : (s.loadTrailer w).readData = s.readData := rfl
@[simp] theorem State.loadTrailer_epoch (s : State) (w : Word) : (s.loadTrailer w).epoch = s.epoch := rfl
@[simp] theorem State.loadTrailer_outDraw (s : State) (w : Word) : (s.loadTrailer w).outDraw = s.outDraw := rfl
@[simp] theorem State.loadTrailer_script (s : State) (w : Word) : (s.loadTrailer w).script = s.script := rfl

/-! ## `State.writeOptions`, which branches on BUSY -/

@[simp] theorem State.writeOptions_par (s : State) (v : Word) : (s.writeOptions v).par = s.par := by
  unfold State.writeOptions; split <;> rfl
@[simp] theorem State.writeOptions_mode (s : State) (v : Word) : (s.writeOptions v).mode = if s.busy then s.mode else v.getLsbD 2 := by
  unfold State.writeOptions; split <;> rfl
@[simp] theorem State.writeOptions_verify (s : State) (v : Word) : (s.writeOptions v).verify = if s.busy then s.verify else v.getLsbD 3 := by
  unfold State.writeOptions; split <;> rfl
@[simp] theorem State.writeOptions_ie (s : State) (v : Word) : (s.writeOptions v).ie = v.getLsbD 4 := by
  unfold State.writeOptions; split <;> rfl
@[simp] theorem State.writeOptions_done (s : State) (v : Word) : (s.writeOptions v).done = s.done := by
  unfold State.writeOptions; split <;> rfl
@[simp] theorem State.writeOptions_err (s : State) (v : Word) : (s.writeOptions v).err = s.err := by
  unfold State.writeOptions; split <;> rfl
@[simp] theorem State.writeOptions_errCode (s : State) (v : Word) : (s.writeOptions v).errCode = s.errCode := by
  unfold State.writeOptions; split <;> rfl
@[simp] theorem State.writeOptions_index (s : State) (v : Word) : (s.writeOptions v).index = s.index := by
  unfold State.writeOptions; split <;> rfl
@[simp] theorem State.writeOptions_inLen (s : State) (v : Word) : (s.writeOptions v).inLen = s.inLen := by
  unfold State.writeOptions; split <;> rfl
@[simp] theorem State.writeOptions_bufSize (s : State) (v : Word) : (s.writeOptions v).bufSize = s.bufSize := by
  unfold State.writeOptions; split <;> rfl
@[simp] theorem State.writeOptions_outLen (s : State) (v : Word) : (s.writeOptions v).outLen = s.outLen := by
  unfold State.writeOptions; split <;> rfl
@[simp] theorem State.writeOptions_adler (s : State) (v : Word) : (s.writeOptions v).adler = s.adler := by
  unfold State.writeOptions; split <;> rfl
@[simp] theorem State.writeOptions_trailer (s : State) (v : Word) : (s.writeOptions v).trailer = s.trailer := by
  unfold State.writeOptions; split <;> rfl
@[simp] theorem State.writeOptions_errIp (s : State) (v : Word) : (s.writeOptions v).errIp = s.errIp := by
  unfold State.writeOptions; split <;> rfl
@[simp] theorem State.writeOptions_errOp (s : State) (v : Word) : (s.writeOptions v).errOp = s.errOp := by
  unfold State.writeOptions; split <;> rfl
@[simp] theorem State.writeOptions_fsm (s : State) (v : Word) : (s.writeOptions v).fsm = s.fsm := by
  unfold State.writeOptions; split <;> rfl
@[simp] theorem State.writeOptions_ip (s : State) (v : Word) : (s.writeOptions v).ip = s.ip := by
  unfold State.writeOptions; split <;> rfl
@[simp] theorem State.writeOptions_bitCnt (s : State) (v : Word) : (s.writeOptions v).bitCnt = s.bitCnt := by
  unfold State.writeOptions; split <;> rfl
@[simp] theorem State.writeOptions_bitBuf (s : State) (v : Word) : (s.writeOptions v).bitBuf = s.bitBuf := by
  unfold State.writeOptions; split <;> rfl
@[simp] theorem State.writeOptions_op (s : State) (v : Word) : (s.writeOptions v).op = s.op := by
  unfold State.writeOptions; split <;> rfl
@[simp] theorem State.writeOptions_cap (s : State) (v : Word) : (s.writeOptions v).cap = s.cap := by
  unfold State.writeOptions; split <;> rfl
@[simp] theorem State.writeOptions_bfinal (s : State) (v : Word) : (s.writeOptions v).bfinal = s.bfinal := by
  unfold State.writeOptions; split <;> rfl
@[simp] theorem State.writeOptions_btype (s : State) (v : Word) : (s.writeOptions v).btype = s.btype := by
  unfold State.writeOptions; split <;> rfl
@[simp] theorem State.writeOptions_hlit (s : State) (v : Word) : (s.writeOptions v).hlit = s.hlit := by
  unfold State.writeOptions; split <;> rfl
@[simp] theorem State.writeOptions_hdist (s : State) (v : Word) : (s.writeOptions v).hdist = s.hdist := by
  unfold State.writeOptions; split <;> rfl
@[simp] theorem State.writeOptions_hclen (s : State) (v : Word) : (s.writeOptions v).hclen = s.hclen := by
  unfold State.writeOptions; split <;> rfl
@[simp] theorem State.writeOptions_clIdx (s : State) (v : Word) : (s.writeOptions v).clIdx = s.clIdx := by
  unfold State.writeOptions; split <;> rfl
@[simp] theorem State.writeOptions_prev (s : State) (v : Word) : (s.writeOptions v).prev = s.prev := by
  unfold State.writeOptions; split <;> rfl
@[simp] theorem State.writeOptions_clLen (s : State) (v : Word) : (s.writeOptions v).clLen = s.clLen := by
  unfold State.writeOptions; split <;> rfl
@[simp] theorem State.writeOptions_lens (s : State) (v : Word) : (s.writeOptions v).lens = s.lens := by
  unfold State.writeOptions; split <;> rfl
@[simp] theorem State.writeOptions_clt (s : State) (v : Word) : (s.writeOptions v).clt = s.clt := by
  unfold State.writeOptions; split <;> rfl
@[simp] theorem State.writeOptions_litt (s : State) (v : Word) : (s.writeOptions v).litt = s.litt := by
  unfold State.writeOptions; split <;> rfl
@[simp] theorem State.writeOptions_distt (s : State) (v : Word) : (s.writeOptions v).distt = s.distt := by
  unfold State.writeOptions; split <;> rfl
@[simp] theorem State.writeOptions_inMem (s : State) (v : Word) : (s.writeOptions v).inMem = s.inMem := by
  unfold State.writeOptions; split <;> rfl
@[simp] theorem State.writeOptions_outMem (s : State) (v : Word) : (s.writeOptions v).outMem = s.outMem := by
  unfold State.writeOptions; split <;> rfl
@[simp] theorem State.writeOptions_pend (s : State) (v : Word) : (s.writeOptions v).pend = s.pend := by
  unfold State.writeOptions; split <;> rfl
@[simp] theorem State.writeOptions_refusedMark (s : State) (v : Word) : (s.writeOptions v).refusedMark = s.refusedMark := by
  unfold State.writeOptions; split <;> rfl
@[simp] theorem State.writeOptions_readData (s : State) (v : Word) : (s.writeOptions v).readData = s.readData := by
  unfold State.writeOptions; split <;> rfl
@[simp] theorem State.writeOptions_epoch (s : State) (v : Word) : (s.writeOptions v).epoch = s.epoch := by
  unfold State.writeOptions; split <;> rfl
@[simp] theorem State.writeOptions_outDraw (s : State) (v : Word) : (s.writeOptions v).outDraw = s.outDraw := by
  unfold State.writeOptions; split <;> rfl
@[simp] theorem State.writeOptions_script (s : State) (v : Word) : (s.writeOptions v).script = s.script := by
  unfold State.writeOptions; split <;> rfl

/-! ## `State.applyReset` (70_reset_and_hazards.md R200, R202) -/

@[simp] theorem State.applyReset_par (s : State) : s.applyReset.par = s.par := rfl
@[simp] theorem State.applyReset_mode (s : State) : s.applyReset.mode = true := rfl
@[simp] theorem State.applyReset_verify (s : State) : s.applyReset.verify = false := rfl
@[simp] theorem State.applyReset_ie (s : State) : s.applyReset.ie = false := rfl
@[simp] theorem State.applyReset_done (s : State) : s.applyReset.done = false := rfl
@[simp] theorem State.applyReset_err (s : State) : s.applyReset.err = false := rfl
@[simp] theorem State.applyReset_errCode (s : State) : s.applyReset.errCode = 0 := rfl
@[simp] theorem State.applyReset_index (s : State) : s.applyReset.index = 0 := rfl
@[simp] theorem State.applyReset_inLen (s : State) : s.applyReset.inLen = 0 := rfl
@[simp] theorem State.applyReset_bufSize (s : State) : s.applyReset.bufSize = 32768 := rfl
@[simp] theorem State.applyReset_outLen (s : State) : s.applyReset.outLen = 0 := rfl
@[simp] theorem State.applyReset_adler (s : State) : s.applyReset.adler = 0 := rfl
@[simp] theorem State.applyReset_trailer (s : State) : s.applyReset.trailer = 0 := rfl
@[simp] theorem State.applyReset_errIp (s : State) : s.applyReset.errIp = 0 := rfl
@[simp] theorem State.applyReset_errOp (s : State) : s.applyReset.errOp = 0 := rfl
@[simp] theorem State.applyReset_fsm (s : State) : s.applyReset.fsm = .idle := rfl
@[simp] theorem State.applyReset_ip (s : State) : s.applyReset.ip = 0 := rfl
@[simp] theorem State.applyReset_bitCnt (s : State) : s.applyReset.bitCnt = 0 := rfl
@[simp] theorem State.applyReset_bitBuf (s : State) : s.applyReset.bitBuf = 0 := rfl
@[simp] theorem State.applyReset_op (s : State) : s.applyReset.op = 0 := rfl
@[simp] theorem State.applyReset_cap (s : State) : s.applyReset.cap = 0 := rfl
@[simp] theorem State.applyReset_bfinal (s : State) : s.applyReset.bfinal = 0 := rfl
@[simp] theorem State.applyReset_btype (s : State) : s.applyReset.btype = 0 := rfl
@[simp] theorem State.applyReset_hlit (s : State) : s.applyReset.hlit = 0 := rfl
@[simp] theorem State.applyReset_hdist (s : State) : s.applyReset.hdist = 0 := rfl
@[simp] theorem State.applyReset_hclen (s : State) : s.applyReset.hclen = 0 := rfl
@[simp] theorem State.applyReset_clIdx (s : State) : s.applyReset.clIdx = 0 := rfl
@[simp] theorem State.applyReset_prev (s : State) : s.applyReset.prev = 0 := rfl
@[simp] theorem State.applyReset_clLen (s : State) : s.applyReset.clLen = s.clLen := rfl
@[simp] theorem State.applyReset_lens (s : State) : s.applyReset.lens = s.lens := rfl
@[simp] theorem State.applyReset_clt (s : State) : s.applyReset.clt = { max := 0, min := 0, slots := s.clt.slots } := rfl
@[simp] theorem State.applyReset_litt (s : State) : s.applyReset.litt = flit := rfl
@[simp] theorem State.applyReset_distt (s : State) : s.applyReset.distt = fdist := rfl
@[simp] theorem State.applyReset_inMem (s : State) : s.applyReset.inMem = s.inMem := rfl
@[simp] theorem State.applyReset_outMem (s : State) : s.applyReset.outMem = s.outMem := rfl
@[simp] theorem State.applyReset_pend (s : State) : s.applyReset.pend = .none := rfl
@[simp] theorem State.applyReset_refusedMark (s : State) : s.applyReset.refusedMark = s.refusedMark := rfl
@[simp] theorem State.applyReset_readData (s : State) : s.applyReset.readData = s.readData := rfl
@[simp] theorem State.applyReset_epoch (s : State) : s.applyReset.epoch = s.epoch := rfl
@[simp] theorem State.applyReset_outDraw (s : State) : s.applyReset.outDraw = s.outDraw := rfl
@[simp] theorem State.applyReset_script (s : State) : s.applyReset.script = s.script := rfl

/-! ## What the derived readings see -/

/-- BUSY reads only S (10_state.md R12). -/
theorem State.busy_congr (s t : State) (h : s.fsm = t.fsm) : s.busy = t.busy := by simp [State.busy, h]

/-- While BUSY = 1 an engine step or a host write draws the unwritten bytes of OUT anew (assumption 18). -/
theorem State.advance_of_busy {s : State} (h : s.busy = true) :
    s.advance = { s with epoch := s.epoch + 1, outDraw := s.outDraw + 1 } := by simp [State.advance, h]

/-- While BUSY = 0 a host write leaves every byte of OUT it does not write. -/
theorem State.advance_of_idle {s : State} (h : s.busy = false) : s.advance = { s with epoch := s.epoch + 1 } := by
  simp [State.advance, h]

@[simp] theorem State.advance_busy (s : State) : s.advance.busy = s.busy := rfl
@[simp] theorem State.withReader_busy (s : State) (r : Reader) : (s.withReader r).busy = s.busy := rfl
@[simp] theorem State.writeOptions_busy (s : State) (v : Word) : (s.writeOptions v).busy = s.busy :=
  State.busy_congr _ _ (by simp)
@[simp] theorem State.clearStatus_busy (s : State) (v : Word) : (s.clearStatus v).busy = s.busy := rfl
@[simp] theorem State.setPend_busy (s : State) (p : Pending) : (s.setPend p).busy = s.busy := rfl
@[simp] theorem State.enterError_busy (s : State) (e : ErrorCode) : (s.enterError e).busy = false := rfl
@[simp] theorem State.complete_busy (s : State) : s.complete.busy = false := rfl
@[simp] theorem State.applyReset_busy (s : State) : s.applyReset.busy = false := rfl

@[simp] theorem State.advance_reader (s : State) : s.advance.reader = s.reader := rfl
@[simp] theorem State.setScript_busy (s : State) (ms : List Move) : (s.setScript ms).busy = s.busy := rfl
@[simp] theorem State.setScript_reader (s : State) (ms : List Move) : (s.setScript ms).reader = s.reader := rfl
@[simp] theorem State.setScript_readIn (s : State) (ms : List Move) : (s.setScript ms).readIn = s.readIn := rfl
@[simp] theorem State.advance_readIn (s : State) : s.advance.readIn = s.readIn := rfl
@[simp] theorem State.advance_place (s : State) : s.advance.place = s.place := rfl
@[simp] theorem State.advance_internalStep (s : State) : s.advance.internalStep = s.internalStep := rfl
@[simp] theorem State.withReader_readIn (s : State) (r : Reader) : (s.withReader r).readIn = s.readIn := rfl

end Sys2Proof.Machine
end

