-- ==== Sys2Proof/Laws/Step.lean ====
section
/-! SUPPORT. The laws of a step's plumbing: what the parts of a step, the fetch and the turn do, each said once. -/

namespace Sys2Proof.Machine

/-! ## The parts of a step -/

theorem runParts_done {run : Instr → State → Host.Outcome State Fault Refusal} {s : State} (h : s.pend = .none) :
    ∀ n, runParts run n s = .next s
  | 0 => rfl
  | n + 1 => by rw [runParts, if_pos h]

/-- One more part. -/
theorem runParts_succ (run : Instr → State → Host.Outcome State Fault Refusal) {s : State} (h : s.pend ≠ .none) (n : Nat) :
    runParts run (n + 1) s =
      match runPart run s with
      | .next s => runParts run n s
      | .fault f => .fault f
      | .refused r => .refused r := by
  rw [runParts]
  exact if_neg h

/-- An instruction that leaves no part ends the step. -/
theorem thenParts_next {run : Instr → State → Host.Outcome State Fault Refusal} {s : State} (h : s.pend = .none) :
    thenParts run (.next s) = .next s := runParts_done h _

/-- A step whose instruction leaves one part more. -/
theorem thenParts_one {run : Instr → State → Host.Outcome State Fault Refusal} {s t : State} (h : s.pend ≠ .none)
    (hr : runPart run s = .next t) (ht : t.pend = .none) : thenParts run (.next s) = .next t := by
  rw [thenParts, maxParts, runParts_succ run h, hr]
  exact runParts_done ht _

/-- A part that reads an instruction runs it on the state after its bits. -/
theorem runPart_instr (run : Instr → State → Host.Outcome State Fault Refusal) {s : State} {c : Ctx} {i : Instr} {r : Reader}
    (hp : s.place = some c) (hd : decode c s.readIn s.inLen.toNat s.reader = .instr i r) :
    runPart run s = run i (s.withReader r) := by
  simp only [runPart, State.fetch, hp, State.fetchAt, hd]

/-- A part whose read raises takes the error. -/
theorem runPart_raise (run : Instr → State → Host.Outcome State Fault Refusal) {s : State} {c : Ctx} {e : ErrorCode} {r : Reader}
    {got : List Nat} (hp : s.place = some c) (hd : decode c s.readIn s.inLen.toNat s.reader = .raise e r got) :
    runPart run s = .next (((s.withReader r).keepRead c got).enterError e) := by
  simp only [runPart, State.fetch, hp, State.fetchAt, hd, Res.finish]

/-- A part that reads no bits. -/
theorem runPart_internal (run : Instr → State → Host.Outcome State Fault Refusal) {s : State} {i : Instr}
    (hp : s.place = none) (hi : s.internalStep = some i) : runPart run s = run i s := by
  simp only [runPart, State.fetch, hp, hi]

/-! ## The turn -/

/-- With no move of the interleaving to come, the step is the engine's. -/
theorem step_engine {s : State} (h : s.script = []) : step s = thenParts exec (runPart exec s.advance) := by
  simp only [step, turn, h, engineStep]

/-- A host move is one access. -/
theorem step_bus {s : State} {b : BusAccess} {ms : List Move} (h : s.script = .bus b :: ms) :
    step s = hostStep exec b (s.setScript ms) := by
  simp only [step, turn, h]

/-- The reset input. -/
theorem step_reset {s : State} {ms : List Move} (h : s.script = .reset :: ms) :
    step s = .next (s.setScript ms).applyReset := by
  simp only [step, turn, h]
  rfl

/-- An engine move. -/
theorem step_engineMove {s : State} {ms : List Move} (h : s.script = .engine :: ms) :
    step s = if s.busy || s.pend != .none then engineStep exec (s.setScript ms) else .next (s.setScript ms) := by
  simp only [step, turn, h]

/-! ## The reader's registers -/

/-- Writing back the reader a state has changes nothing. -/
theorem State.withReader_reader (s : State) : s.withReader s.reader = s := by
  simp only [State.withReader, State.reader, BitVec.ofNat_toNat, BitVec.setWidth_eq]

/-- The reader comes back as it was written, where it fits the registers. -/
theorem State.reader_withReader (s : State) {r : Reader} (h₁ : r.ip < 2 ^ 32) (h₂ : r.cnt < 2 ^ 6) (h₃ : r.buf < 2 ^ 32) :
    (s.withReader r).reader = r := by
  simp only [State.reader, State.withReader, BitVec.toNat_ofNat, Nat.mod_eq_of_lt h₁, Nat.mod_eq_of_lt h₂, Nat.mod_eq_of_lt h₃]

end Sys2Proof.Machine
end

