-- ==== Sys2Proof/Tests/Slice0.lean ====
section
/-! SUPPORT. The model's own tests: well-formedness refuses what no row can encode; words written out from the spec's encodings decode
to what they stand for; one step of each kind against the spec's own examples (95_test_vectors.md and the Example lines of the rules);
and, for each statement with hypotheses, a state and operands that meet them. Every expected value is the spec's. -/

namespace Sys2Proof.Tests

set_option Elab.async false

open Sys2Proof Sys2Proof.Machine

/-! ## Helpers -/

/-- The state of a step that has one. -/
def nextOf : Host.Outcome State Fault Refusal → Option State
  | .next s => some s
  | .fault _ => none
  | .refused _ => none

/-- The host has loaded the bytes from IN address 0 on and written IN_LEN (95_test_vectors.md section 2). -/
def loaded (mode verify : Bool) (bs : List Nat) : State :=
  { State.reset.putIn 0 (bs.map (BitVec.ofNat 8)) with mode := mode, verify := verify, inLen := BitVec.ofNat 32 bs.length }

/-- A raw decode of the bytes, just started. -/
def raw (bs : List Nat) : State := (loaded false false bs).startInit

/-- A zlib decode with trailer check, just started. -/
def zlib (bs : List Nat) : State := (loaded true true bs).startInit

/-- The stream position: IP, BITCNT, BITBUF. -/
def pos (s : State) : Nat × Nat × Nat := (s.ip.toNat, s.bitCnt.toNat, s.bitBuf.toNat)

/-- The state at a stream position. -/
def at_ (s : State) (ip cnt buf : Nat) : State := s.withReader { ip := ip, cnt := cnt, buf := buf }

/-- In the body of a fixed final block, with these output bytes written. -/
def inBody (s : State) (out : List Nat) : State :=
  { s with
    fsm := .body, btype := 1, bfinal := 1, op := BitVec.ofNat 32 out.length
    outMem := out.mapIdx fun i b => (i, BitVec.ofNat 8 b) }

/-- The n bytes of OUT from address 0 on. -/
def outs (n : Nat) (s : State) : List Nat := (List.range n).map fun a => (s.outByte a).toNat

/-- An error's record: S, ERRCODE, ERR_IP, ERR_OP, OUT_LEN. -/
def errOf (s : State) : Fsm × Nat × Nat × Nat × Nat := (s.fsm, s.errCode.toNat, s.errIp.toNat, s.errOp.toNat, s.outLen.toNat)

/-! ## Well-formedness: each check refuses an ill-formed term -/

theorem test_wf_len_index : Instr.wellFormed (.lenDyn 31 0) = false := by decide
theorem test_wf_len_extra : Instr.wellFormed (.lenDyn 8 2) = false := by decide
theorem test_wf_dist_symbol : Instr.wellFormed (.distDyn 30 0) = false := by decide
theorem test_wf_dist_extra : Instr.wellFormed (.distDyn 4 2) = false := by decide
theorem test_wf_dist_invalid : Instr.wellFormed (.distInvalid 29) = false := by decide
theorem test_wf_start : Instr.wellFormed (.start 3) = false ∧ Instr.wellFormed (.start 4) = false := by decide
theorem test_wf_abort : Instr.wellFormed (.abort 1) = false := by decide
theorem test_wf_config : Instr.wellFormed (.config 1) = false ∧ Instr.wellFormed (.config 2) = false := by decide
theorem test_wf_write_ignored :
    Instr.wellFormed (.writeIgnored 0x10 0) = false ∧ Instr.wellFormed (.writeIgnored 0x15 0) = false := by decide
theorem test_wf_read_reg : Instr.wellFormed (.readReg 0x06) = false := by decide
theorem test_wf_in_access : Instr.wellFormed (.inAccess { offset := 2, width := .four, wdata := none }) = false := by decide
theorem test_wf_out_access : Instr.wellFormed (.outAccess { offset := 1, width := .two, wdata := none }) = false := by decide
theorem test_wf_accepts :
    Instr.wellFormed (.lenDyn 27 31) = true ∧ Instr.wellFormed (.distDyn 29 8191) = true ∧
    Instr.wellFormed (.distInvalid 30) = true ∧ Instr.wellFormed (.start 0xD) = true := by decide

/-! ## Decoding: words written out from the spec's encodings -/

/-- The instruction of stream bits at a place of the grammar. -/
def bitsAt (c : Ctx) (n w : Nat) : Option Instr :=
  match decodeStream c (.bits n w) with
  | some (.instr i _) => some i
  | _ => none

/-- The instruction of stream bytes at a place of the grammar. -/
def bytesAt (c : Ctx) (bs : List Nat) : Option Instr :=
  match decodeStream c (.bytes (bs.map (BitVec.ofNat 8))) with
  | some (.instr i _) => some i
  | _ => none

/-- The 8-bit words of LIT 0x00 .. LIT 0x8F, as the opcode table's `match` gives them (30_encoding.md R73). -/
def litWords8 : List Nat :=
  List.flatten [
    [12, 140, 76, 204, 44, 172, 108, 236, 28, 156, 92, 220, 60, 188, 124, 252],
    [2, 130, 66, 194, 34, 162, 98, 226, 18, 146, 82, 210, 50, 178, 114, 242],
    [10, 138, 74, 202, 42, 170, 106, 234, 26, 154, 90, 218, 58, 186, 122, 250],
    [6, 134, 70, 198, 38, 166, 102, 230, 22, 150, 86, 214, 54, 182, 118, 246],
    [14, 142, 78, 206, 46, 174, 110, 238, 30, 158, 94, 222, 62, 190, 126, 254],
    [1, 129, 65, 193, 33, 161, 97, 225, 17, 145, 81, 209, 49, 177, 113, 241],
    [9, 137, 73, 201, 41, 169, 105, 233, 25, 153, 89, 217, 57, 185, 121, 249],
    [5, 133, 69, 197, 37, 165, 101, 229, 21, 149, 85, 213, 53, 181, 117, 245],
    [13, 141, 77, 205, 45, 173, 109, 237, 29, 157, 93, 221, 61, 189, 125, 253]]

/-- The 9-bit words of LIT 0x90 .. LIT 0xFF (30_encoding.md R73). -/
def litWords9 : List Nat :=
  List.flatten [
    [19, 275, 147, 403, 83, 339, 211, 467, 51, 307, 179, 435, 115, 371, 243, 499],
    [11, 267, 139, 395, 75, 331, 203, 459, 43, 299, 171, 427, 107, 363, 235, 491],
    [27, 283, 155, 411, 91, 347, 219, 475, 59, 315, 187, 443, 123, 379, 251, 507],
    [7, 263, 135, 391, 71, 327, 199, 455, 39, 295, 167, 423, 103, 359, 231, 487],
    [23, 279, 151, 407, 87, 343, 215, 471, 55, 311, 183, 439, 119, 375, 247, 503],
    [15, 271, 143, 399, 79, 335, 207, 463, 47, 303, 175, 431, 111, 367, 239, 495],
    [31, 287, 159, 415, 95, 351, 223, 479, 63, 319, 191, 447, 127, 383, 255, 511]]

/-- The code's width and the word of LEN 257 .. LEN 287, extra bits 0 (30_encoding.md R73). -/
def lenWords : List (Nat × Nat) :=
  List.flatten [
    [(7, 64), (7, 32), (7, 96), (7, 16), (7, 80), (7, 48), (7, 112), (7, 8)],
    [(7, 72), (7, 40), (7, 104), (7, 24), (7, 88), (7, 56), (7, 120), (7, 4)],
    [(7, 68), (7, 36), (7, 100), (7, 20), (7, 84), (7, 52), (7, 116), (8, 3)],
    [(8, 131), (8, 67), (8, 195), (8, 35), (8, 163), (8, 99), (8, 227)]]

/-- The 5-bit words of DIST 0 .. DIST 29 (30_encoding.md R74). -/
def distWords : List Nat :=
  List.flatten [
    [0, 16, 8, 24, 4, 20, 12, 28, 2, 18, 10, 26, 6, 22, 14, 30],
    [1, 17, 9, 25, 5, 21, 13, 29, 3, 19, 11, 27, 7, 23]]

theorem test_decode_literals_8 :
    (litWords8.map fun w => (bitsAt (.litLen true flit) 8 w).bind Instr.fixedLiteral) =
      (List.range 144).map fun k => some (BitVec.ofNat 8 k) := by decide +kernel

theorem test_decode_literals_9 :
    (litWords9.map fun w => (bitsAt (.litLen true flit) 9 w).bind Instr.fixedLiteral) =
      (List.range 112).map fun k => some (BitVec.ofNat 8 (144 + k)) := by decide +kernel

theorem test_decode_lengths :
    (lenWords.map fun p => (bitsAt (.litLen true flit) (p.1 + 5) p.2).bind Instr.fixedLength) =
      (List.range 31).map fun k => some (k, 0) := by decide +kernel

theorem test_decode_distances :
    (distWords.map fun w => (bitsAt (.dist true fdist) 18 w).bind Instr.fixedDistance) =
      (List.range 30).map fun k => some (k, 0) := by decide +kernel

/-- LEN 284 has the code 11000100 (0xC4), and five extra bits of value 31 (30_encoding.md R70, R73). -/
theorem test_decode_len284 : bitsAt (.litLen true flit) 13 0b1111100100011 = some (.len284 31) := by decide +kernel

/-- DIST 29 has the code 11101, and 13 extra bits (30_encoding.md R71, R74). -/
theorem test_decode_dist29 : bitsAt (.dist true fdist) 18 0b111111111111010111 = some (.dist29 0x1FFE) := by decide +kernel

/-- DIST 4 with extra 1: the distance 6 of vector L2. -/
theorem test_decode_dist4 : bitsAt (.dist true fdist) 6 0b100100 = some (.dist4 1) := by decide +kernel

theorem test_decode_eob : bitsAt (.litLen true flit) 7 0 = some .eob := by decide +kernel

theorem test_decode_dist_invalid :
    bitsAt (.dist true fdist) 5 0b01111 = some .distInvalid11110 ∧ bitsAt (.dist true fdist) 5 0b11111 = some .distInvalid11111 := by
  decide +kernel

/-- Block headers, BFINAL first, then BTYPE least significant bit first (30_encoding.md R64). -/
theorem test_decode_blocks :
    bitsAt .block 3 0b000 = some (.blockStored 0) ∧ bitsAt .block 3 0b011 = some (.blockFixed 1) ∧
    bitsAt .block 3 0b100 = some (.blockDynamic 0) ∧ bitsAt .block 3 0b111 = some (.blockReserved 1) := by decide

theorem test_decode_zhdr : bytesAt .zhdr [0x78, 0x9C] = some (.zhdr 0x78 0x9C) := by decide

/-- LEN and NLEN are little-endian (20_memory.md R45): the stored header of vector D-ST1. -/
theorem test_decode_lennlen : bytesAt .stored [0x05, 0x00, 0xFA, 0xFF] = some (.lenNlen 5 0xFFFA) := by decide

theorem test_decode_data : bytesAt .data [0x68] = some (.data 0x68) := by decide

/-- The counts of program P5: HLIT' = 1, HDIST' = 1, HCLEN' = 14 (30_encoding.md R66). -/
theorem test_decode_dyn : bitsAt .dyn 14 0b11100000100001 = some (.dyn 1 1 14) := by decide

theorem test_decode_cll : bitsAt .cll 3 0b011 = some (.cll 3) := by decide

/-- The trailer is big-endian (30_encoding.md R75). -/
theorem test_decode_trailer : bytesAt .trailer [0x19, 0x2E, 0x04, 0x31] = some (.trailer 0x192E0431) := by decide

/-- The code-length code of program P5: 3 is 00, 16 is 01, 18 is 10, 1 is 110, 2 is 111. -/
def p5Clt : Table := buildTable [0, 3, 3, 2, 0, 0, 0, 0, 0, 0, 0, 0, 0, 0, 0, 0, 2, 0, 2]

/-- The literal/length code of program P5: 97 is 0, 98 is 10, 256 is 110, 257 is 111. -/
def p5Litt : Table := buildTable (List.flatten [List.replicate 97 0, [1, 2], List.replicate 157 0, [3, 3]])

/-- The distance code of program P5: 0 is 000, 1 is 001. -/
def p5Distt : Table := buildTable [3, 3]

theorem test_decode_cl :
    bitsAt (.cl p5Clt) 9 0b101011001 = some (.cl18 86) ∧ bitsAt (.cl p5Clt) 3 0b011 = some .cl1 ∧
    bitsAt (.cl p5Clt) 3 0b111 = some .cl2 ∧ bitsAt (.cl p5Clt) 3 0b000 = some .cl3 ∧
    bitsAt (.cl p5Clt) 4 0b1110 = some (.cl16 3) := by decide +kernel

/-- Every code-length symbol, in a code of 19 symbols of length 5: symbol k has the code k, most significant bit first. -/
theorem test_decode_cl_all :
    ((List.range 19).map fun k => (bitsAt (.cl (buildTable (List.replicate 19 5))) 12 (revBits 5 k)).bind Instr.clSymbol) =
      (List.range 19).map fun k => some (k, 0) := by decide +kernel

theorem test_decode_cl17 : bitsAt (.cl (buildTable (List.replicate 19 5))) 8 0b10110001 = some (.cl17 5) := by decide +kernel

theorem test_decode_dynamic_body :
    bitsAt (.litLen false p5Litt) 3 0 = some (.litDyn 0x61) ∧ bitsAt (.litLen false p5Litt) 3 0b01 = some (.litDyn 0x62) ∧
    bitsAt (.litLen false p5Litt) 3 0b011 = some .eobDyn ∧ bitsAt (.litLen false p5Litt) 3 0b111 = some (.lenDyn 0 0) ∧
    bitsAt (.dist false p5Distt) 3 0b000 = some (.distDyn 0 0) ∧ bitsAt (.dist false p5Distt) 3 0b100 = some (.distDyn 1 0) := by
  decide +kernel

/-- Distance symbols 30 and 31 of a dynamic code have no entry (30_encoding.md R71). -/
theorem test_decode_dist_invalid_dyn :
    bitsAt (.dist false (buildTable (List.replicate 32 5))) 5 0b01111 = some (.distInvalid 30) ∧
    bitsAt (.dist false (buildTable (List.replicate 32 5))) 5 0b11111 = some (.distInvalid 31) := by decide +kernel

/-- Host commands (30_encoding.md R79), through the map of Config.reference. -/
theorem test_decode_host :
    decodeBus Config.reference { addr := 0x00, bytes := 4, wdata := some 0x0D } = some (.start 0x0D) ∧
    decodeBus Config.reference { addr := 0x00, bytes := 4, wdata := some 0x03 } = some (.abort 0x03) ∧
    decodeBus Config.reference { addr := 0x00, bytes := 4, wdata := some 0x10 } = some (.config 0x10) ∧
    decodeBus Config.reference { addr := 0x04, bytes := 4, wdata := some 0x04 } = some (.clear 0x04) ∧
    decodeBus Config.reference { addr := 0x08, bytes := 4, wdata := some 7 } = some (.setIndex 7) ∧
    decodeBus Config.reference { addr := 0x0C, bytes := 4, wdata := some 7 } = some (.setInLen 7) ∧
    decodeBus Config.reference { addr := 0x10, bytes := 4, wdata := some 7 } = some (.setBufSize 7) ∧
    decodeBus Config.reference { addr := 0x18, bytes := 4, wdata := some 7 } = some (.writeIgnored 0x18 7) ∧
    decodeBus Config.reference { addr := 0x2C, bytes := 4, wdata := none } = some (.readReg 0x2C) := by decide

theorem test_decode_windows :
    decodeBus Config.reference { addr := 0x100002, bytes := 2, wdata := none } =
      some (.inAccess { offset := 2, width := .two, wdata := none }) ∧
    decodeBus Config.reference { addr := 0x2FFFFF, bytes := 1, wdata := some 9 } =
      some (.outAccess { offset := 0xFFFFF, width := .one, wdata := some 9 }) := by decide

/-- Vector H14: a 16-bit access of STATUS and a misaligned 32-bit access of IN are refused; so is one past the window's end. -/
theorem test_decode_refused :
    decodeBus Config.reference { addr := 0x04, bytes := 2, wdata := none } = none ∧
    decodeBus Config.reference { addr := 0x100002, bytes := 4, wdata := none } = none ∧
    decodeBus Config.reference { addr := 0x300000, bytes := 1, wdata := none } = none := by decide

/-- The opcode table's words: LIT 0x61, EOB, a zlib header, a stored header and a CTRL write, each with no
other reading of its length (assumption 15). -/
theorem test_table_words :
    decodeTableWord 8 0x89 = some .lit61 ∧ decodeTableWord 8 0 = some .eob ∧ decodeTableWord 16 0x0008 = some (.zhdr 0x08 0x00) ∧
    decodeTableWord 32 0xFFFA0005 = some (.lenNlen 5 0xFFFA) ∧ decodeTableWord 32 2 = some (.abort 2) := by decide +kernel

/-- The next step runs a placed word: LIT 0x61 right after reset writes OUT[0]. -/
theorem test_place_word :
    ((nextOf (step (State.reset.withFetchWord 8 0x89))).map fun s => (s.fsm, s.op, (s.outByte 0).toNat)) = some (.body, 1, 0x61) := by
  decide +kernel

/-! ## The bit reader (vectors BR1 to BR19) -/

/-- IN as a list of bytes. -/
def inList (bs : List Byte) (a : Nat) : Option Byte := bs[a]?

theorem test_br1 : readBits (inList [0x4B]) 1 1 { ip := 0, cnt := 0, buf := 0 } = .ok 1 { ip := 1, cnt := 7, buf := 0x25 } := by decide
theorem test_br2 : readBits (inList [0x4B]) 1 2 { ip := 1, cnt := 7, buf := 0x25 } = .ok 1 { ip := 1, cnt := 5, buf := 0x09 } := by decide
theorem test_br3 :
    readBits (inList [0x4B, 0x04, 0x02]) 3 16 { ip := 1, cnt := 7, buf := 0x25 } = .ok 0x0225 { ip := 3, cnt := 7, buf := 1 } := by
  decide
theorem test_br4 :
    readBits (inList [0x4B]) 1 8 { ip := 1, cnt := 7, buf := 0x25 } = .raise .truncatedInput { ip := 1, cnt := 7, buf := 0x25 } := by
  decide
theorem test_br5 : readBits (inList []) 0 0 { ip := 0, cnt := 0, buf := 0 } = .ok 0 { ip := 0, cnt := 0, buf := 0 } := by decide
theorem test_br6 : ({ ip := 3, cnt := 5, buf := 9 } : Reader).refill 0x04 = { ip := 4, cnt := 13, buf := 0x89 } := by decide
theorem test_br7 :
    readCode (inList [0, 0, 0, 0x04]) 4 flit { ip := 3, cnt := 5, buf := 9 } = .ok 97 { ip := 4, cnt := 5, buf := 0 } := by
  decide +kernel
theorem test_br8 : readCode (inList [0x00]) 1 flit { ip := 0, cnt := 0, buf := 0 } = .ok 256 { ip := 1, cnt := 1, buf := 0 } := by
  decide +kernel
theorem test_br9 :
    readCode (inList [0x13]) 1 flit { ip := 0, cnt := 0, buf := 0 } = .raise .truncatedInput { ip := 1, cnt := 8, buf := 0x13 } := by
  decide +kernel
theorem test_br11 :
    readCode (inList [0x0F]) 1 fdist { ip := 0, cnt := 0, buf := 0 } = .raise .invalidCode { ip := 1, cnt := 8, buf := 0x0F } := by
  decide +kernel
theorem test_br13 :
    readCode (inList [0x55]) 1 (buildTable [0, 0, 0]) { ip := 0, cnt := 0, buf := 0 } =
      .raise .invalidCode { ip := 0, cnt := 0, buf := 0 } := by decide +kernel
theorem test_br14 :
    readCode (inList [0x03]) 1 (buildTable [1, 2]) { ip := 0, cnt := 0, buf := 0 } =
      .raise .invalidCode { ip := 1, cnt := 8, buf := 3 } := by decide +kernel
theorem test_br16 : ({ ip := 1, cnt := 5, buf := 0 } : Reader).byteAlign = { ip := 1, cnt := 0, buf := 0 } := by decide
theorem test_br17 : ({ ip := 12, cnt := 9, buf := 0x32 } : Reader).eobRewind = { ip := 11, cnt := 1, buf := 0 } := by decide
theorem test_br18 : ({ ip := 10, cnt := 17, buf := 0x1FFAB } : Reader).eobRewind = { ip := 8, cnt := 1, buf := 1 } := by decide

/-! ## The table builder (vectors B1, F1 to F9) -/

theorem test_b1 :
    buildTable [3, 3, 3, 3, 3, 2, 4, 4] =
      { max := 4, min := 2, slots := List.flatten
          [[0x20005, 0x30002, 0x30000, 0x30004, 0x20005, 0x30003, 0x30001, 0x40006],
           [0x20005, 0x30002, 0x30000, 0x30004, 0x20005, 0x30003, 0x30001, 0x40007]] } := by decide +kernel

theorem test_flit_samples :
    flit.slot 0 = 0x00070100 ∧ flit.slot 1 = 0x00080050 ∧ flit.slot 0x0C = 0x00080000 ∧ flit.slot 0x13 = 0x00090090 ∧
    flit.slot 0x89 = 0x00080061 ∧ flit.slot 0x103 = 0x00080118 ∧ flit.slot 0x1FF = 0x000900FF := by decide +kernel

/-! ## Headers (vectors D-Z1, E2, E3, E4, E10b, D-B1, E1) -/

theorem test_zhdr : ((nextOf (step (zlib [0x78, 0x9C, 0x4B]))).map fun s => (s.fsm, pos s)) = some (.bhdr, (2, 0, 0)) := by
  decide +kernel
theorem test_zhdr_checks :
    ((nextOf (step (zlib [0x78, 0x9D, 0x4B]))).map errOf) = some (.error, 0x03, 2, 0, 0) ∧
    ((nextOf (step (zlib [0x79, 0x00]))).map errOf) = some (.error, 0x02, 2, 0, 0) := by decide +kernel
theorem test_zhdr_fdict_short :
    ((nextOf (step (zlib [0x78, 0xBB]))).map errOf) = some (.error, 0x04, 2, 0, 0) ∧
    ((nextOf (step (zlib [0x78]))).map errOf) = some (.error, 0x06, 0, 0, 0) := by decide +kernel
theorem test_bhdr :
    ((nextOf (step (raw [0x4B, 0x04, 0x02, 0x00]))).map fun s => (s.fsm, s.bfinal, s.btype, pos s)) =
      some (.body, 1, 1, (1, 5, 0x09)) := by decide +kernel
theorem test_bhdr_reserved : ((nextOf (step (raw [0x07]))).map errOf) = some (.error, 0x05, 1, 0, 0) := by decide +kernel
theorem test_bhdr_truncated : ((nextOf (step (raw []))).map errOf) = some (.error, 0x06, 0, 0, 0) := by decide +kernel
theorem test_bhdr_stored_dynamic :
    ((nextOf (step (raw [0x00, 0x02]))).map fun s => (s.fsm, s.bfinal)) = some (.stored, 0) ∧
    ((nextOf (step (raw [0x0D, 0xC1]))).map fun s => (s.fsm, pos s)) = some (.dynhdr, (1, 5, 1)) := by decide +kernel

/-! ## Stored blocks (vectors D-ST1, D-ST2, E7, E8, E9, G2) -/

/-- At the stored block of a raw stream whose first byte is the header 01. -/
def atStored (bs : List Nat) : State := { at_ (raw bs) 1 5 0 with fsm := .stored, bfinal := 1 }

theorem test_stored :
    ((nextOf (step (atStored [0x01, 0x05, 0x00, 0xFA, 0xFF, 0x68, 0x65, 0x6C, 0x6C, 0x6F]))).map fun s =>
      (s.fsm, pos s, s.op.toNat, outs 5 s)) = some (.finish, (10, 0, 0), 5, [0x68, 0x65, 0x6C, 0x6C, 0x6F]) := by decide +kernel
theorem test_stored_empty :
    ((nextOf (step (atStored [0x01, 0x00, 0x00, 0xFF, 0xFF]))).map fun s => (s.fsm, pos s, s.op.toNat)) =
      some (.finish, (5, 0, 0), 0) := by decide +kernel
theorem test_stored_errors :
    ((nextOf (step (atStored [0x01, 0x05, 0x00, 0x05, 0xFF, 0x68, 0x65]))).map errOf) = some (.error, 0x07, 5, 0, 0) ∧
    ((nextOf (step (atStored [0x01, 0x05, 0x00, 0xFA]))).map errOf) = some (.error, 0x07, 1, 0, 0) ∧
    ((nextOf (step (atStored [0x01, 0x05, 0x00, 0xFA, 0xFF, 0x68, 0x65, 0x6C, 0x6C]))).map errOf) = some (.error, 0x08, 5, 0, 0) := by
  decide +kernel
theorem test_stored_growth :
    ((nextOf (step { atStored [0x01, 0x05, 0x00, 0xFA, 0xFF, 0x68, 0x65, 0x6C, 0x6C, 0x6F] with cap := 1 })).map fun s => s.cap.toNat) =
      some 8 := by decide +kernel

/-! ## Dynamic headers and code lengths (program P5, vectors D-DH1, D-CL1 to D-CL4, D-BU1, E19, E20) -/

/-- The bytes of program P5. -/
def p5 : List Nat := [0x0D, 0xC1, 0x05, 0x01, 0x00, 0x00, 0x00, 0xC2, 0xB0, 0xAC, 0x7B, 0xFF, 0x10, 0x88, 0x8E, 0x73]

theorem test_dynhdr :
    ((nextOf (step { at_ (raw p5) 1 5 1 with fsm := .dynhdr, bfinal := 1, btype := 2 })).map fun s =>
      (s.fsm, s.hlit.toNat, s.hdist.toNat, s.hclen.toNat, s.ip.toNat, s.bitCnt.toNat)) =
      some (.clens, 258, 2, 18, 9, 1) := by decide +kernel
theorem test_dynhdr_table :
    ((nextOf (step { at_ (raw p5) 1 5 1 with fsm := .dynhdr, bfinal := 1, btype := 2 })).map fun s =>
      (s.clLen.toList.map BitVec.toNat, s.clt)) =
      some ([0, 3, 3, 2, 0, 0, 0, 0, 0, 0, 0, 0, 0, 0, 0, 0, 2, 0, 2], p5Clt) := by decide +kernel
theorem test_dynhdr_truncated :
    ((nextOf (step { at_ (raw [0x0D, 0xC1]) 1 5 1 with fsm := .dynhdr, btype := 2 })).map errOf) = some (.error, 0x06, 2, 0, 0) := by
  decide +kernel

/-- Among the code lengths of program P5. -/
def atClens (ip cnt buf clIdx prev : Nat) : State :=
  { at_ (raw p5) ip cnt buf with
    fsm := .clens, bfinal := 1, btype := 2, hlit := 258, hdist := 2, hclen := 18, clt := p5Clt
    clIdx := BitVec.ofNat 9 clIdx, prev := BitVec.ofNat 4 prev }

theorem test_cl18 :
    ((nextOf (step (atClens 9 1 1 0 5))).map fun s => (s.fsm, s.clIdx.toNat, s.prev, s.ip.toNat, s.bitCnt.toNat)) =
      some (.clens, 97, 0, 10, 0) := by decide +kernel
theorem test_cl1 :
    ((nextOf (step (atClens 10 0 0 97 0))).map fun s => (s.clIdx.toNat, s.prev, s.lens.toList.getD 97 0, s.ip.toNat, s.bitCnt.toNat)) =
      some (98, 1, 1, 11, 5) := by decide +kernel
theorem test_cl16 :
    ((nextOf (step (atClens 14 6 0x22 257 3))).map fun s =>
      (s.fsm, s.clIdx.toNat, s.prev, (s.lens.toList.drop 256).take 4, s.ip.toNat, s.bitCnt.toNat)) =
      some (.dynbuild, 260, 3, [0, 3, 3, 3], 14, 2) := by decide +kernel
theorem test_cl17 :
    ((nextOf (exec (.cl17 7) (atClens 9 1 1 0 5))).map fun s => (s.clIdx.toNat, s.prev)) = some (10, 0) := by decide +kernel
theorem test_cl_overrun : ((nextOf (exec (.cl18 127) (atClens 6 0 0 138 0))).map errOf) = some (.error, 0x0C, 6, 0, 0) := by
  decide +kernel
theorem test_cl_invalid_code :
    ((nextOf (step { atClens 9 1 1 0 0 with clt := buildTable (List.replicate 19 0) })).map errOf) = some (.error, 0x0A, 9, 0, 0) := by
  decide +kernel

/-- The code lengths of program P5, as DYNBUILD finds them. -/
def p5Lens : Vector (BitVec 4) 320 :=
  (((((Vector.replicate 320 0).setIfInBounds 97 1).setIfInBounds 98 2).setIfInBounds 256 3).setIfInBounds 257 3).setIfInBounds 258 3
    |>.setIfInBounds 259 3

theorem test_dynbuild :
    ((nextOf (step { atClens 14 2 0 260 3 with fsm := .dynbuild, lens := p5Lens })).map fun s => (s.fsm, s.litt, s.distt)) =
      some (.body,
        { max := 3, min := 1,
          slots := [0x10061, 0x20062, 0x10061, 0x30100, 0x10061, 0x20062, 0x10061, 0x30101] },
        { max := 3, min := 3, slots := [0x30000, 0, 0, 0, 0x30001, 0, 0, 0] }) := by decide +kernel

/-! ## Bodies (programs P1, P3, P4, vectors L2, L4 to L7, E11, E12, E16, E17) -/

/-- The bytes of program P3. -/
def p3 : List Nat := [0x4B, 0x04, 0x02, 0x00]

theorem test_literal :
    ((nextOf (step (at_ (inBody (raw p3) []) 1 5 0x09))).map fun s => (s.fsm, s.op.toNat, outs 1 s, s.ip.toNat, s.bitCnt.toNat)) =
      some (.body, 1, [0x61], 2, 5) := by decide +kernel
theorem test_match_overlap :
    ((nextOf (step (at_ (inBody (raw p3) [0x61]) 2 5 0))).map fun s => (s.fsm, s.op.toNat, outs 4 s, s.ip.toNat, s.bitCnt.toNat)) =
      some (.body, 4, [0x61, 0x61, 0x61, 0x61], 3, 1) := by decide +kernel
theorem test_eob :
    ((nextOf (step (at_ (inBody (raw p3) [0x61, 0x61, 0x61, 0x61]) 3 1 0))).map fun s => (s.fsm, s.ip.toNat, s.bitCnt.toNat)) =
      some (.finish, 4, 2) := by decide +kernel
theorem test_match_extra_bits :
    ((nextOf (step { at_ (inBody (raw [0x4B, 0x4C, 0x4A, 0x4E, 0x49, 0x4D, 0x43, 0x26, 0x01]) [97, 98, 99, 100, 101, 102]) 7 5 0x08 with
      cap := 100 })).map fun s => (s.op.toNat, outs 18 s)) =
      some (18, [97, 98, 99, 100, 101, 102, 97, 98, 99, 100, 101, 102, 97, 98, 99, 100, 101, 102]) := by decide +kernel
theorem test_len285_286 :
    ((nextOf (exec .len285 (raw p3))).map State.pend) = some (.distance 258) ∧
    ((nextOf (exec .len286 (raw p3))).map State.pend) = some (.distance 258) := by decide +kernel
theorem test_distance_too_far :
    ((nextOf (step (at_ (inBody (raw [0x03, 0x02, 0x00]) []) 1 5 0))).map fun s => (errOf s, s.ip.toNat, s.bitCnt.toNat)) =
      some ((.error, 0x0B, 2, 0, 0), 2, 1) := by decide +kernel
theorem test_distance_empty_slot :
    ((nextOf (step (at_ (inBody (raw [0x4B, 0x04, 0x3E]) [0x61]) 2 5 0))).map fun s => (errOf s, s.bitBuf.toNat, s.bitCnt.toNat)) =
      some ((.error, 0x0A, 3, 1, 0), 0x0F, 6) := by decide +kernel
theorem test_body_truncated : ((nextOf (step (at_ (inBody (raw [0x4B, 0x04]) [0x61]) 2 5 0))).map errOf) = some (.error, 0x06, 2, 1, 0) := by
  decide +kernel
theorem test_match_overflow :
    ((nextOf (step (at_ (inBody { raw p3 with par := { Config.reference with outMemSize := 3 }, cap := 3 } [0x61]) 2 5 0))).map fun s =>
      (errOf s, s.cap.toNat)) = some ((.error, 0x0D, 3, 1, 0), 3) := by decide +kernel
theorem test_match_across_blocks :
    ((nextOf (step (at_ (inBody (raw [0x00, 0x02, 0x00, 0xFD, 0xFF, 0x61, 0x62, 0x03, 0x41, 0x00]) [0x61, 0x62]) 8 5 0))).map fun s =>
      (s.op.toNat, outs 6 s, s.ip.toNat, s.bitCnt.toNat)) = some (6, [0x61, 0x62, 0x61, 0x62, 0x61, 0x62], 9, 1) := by decide +kernel
theorem test_dynamic_literal_eob :
    ((nextOf (exec (.litDyn 0x61) (inBody (raw p3) []))).map fun s => (s.op.toNat, outs 1 s)) = some (1, [0x61]) ∧
    ((nextOf (exec .eobDyn (at_ { inBody (raw p3) [] with bfinal := 0 } 12 9 0x32))).map fun s => (s.fsm, pos s)) =
      some (.bhdr, (11, 1, 0)) := by decide +kernel
theorem test_dynamic_distance_invalid : ((nextOf (exec (.distInvalid 30) (at_ (inBody (raw p3) [0x61]) 15 0 0))).map errOf) =
    some (.error, 0x0B, 15, 1, 0) := by decide +kernel

/-! ## Growth (vectors G1, G3, G5) -/

theorem test_growth_guard :
    ((nextOf (step { at_ (inBody (zlib [0x78, 0x9C, 0x4B, 0x04, 0x00, 0x00, 0x62, 0x00, 0x62]) []) 3 5 0x09 with cap := 0 })).map
      fun s => s.cap.toNat) = some 1 := by decide +kernel
theorem test_growth_estimate :
    ((nextOf (step { at_ (inBody (raw p3) [0x61]) 2 5 0 with cap := 1 })).map fun s => s.cap.toNat) = some 19 := by decide +kernel
theorem test_growth_ratio :
    defaultCapacity 6 3 7 1 = 3 ∧ defaultCapacity 4 5 7 3 = 76 ∧ estimateCapacity 1 7 2 = 20 := by decide

/-! ## Adler-32 (vectors A1 to A6, A13) -/

theorem test_adler :
    adlerCalc [] = 1 ∧ adlerCalc [1, 2, 3, 4, 5] = 0x00280010 ∧ adlerCalc [0x61] = 0x00620062 ∧
    adlerCalc [0x61, 0x62, 0x63] = 0x024D0127 ∧ adlerCalc [0x57, 0x69, 0x6B, 0x69, 0x70, 0x65, 0x64, 0x69, 0x61] = 0x11E60398 ∧
    adlerUpdate 0x00620062 [0x62, 0x63] = 0x024D0127 := by decide +kernel

/-! ## The end of a decode (program P1, vectors D-FI1, D-FI2, E5, E6, E6b) -/

/-- At FINISH of a zlib decode whose output is the byte 61 (program P1). -/
def atFinish (bs : List Nat) : State := { at_ (inBody (zlib bs) [0x61]) 5 6 0 with fsm := .finish }

theorem test_finish_verify :
    ((nextOf (step (atFinish [0x78, 0x9C, 0x4B, 0x04, 0x00, 0x00, 0x62, 0x00, 0x62]))).map fun s =>
      (s.statusWord, s.outLen, s.cap, s.adler, s.trailer)) = some (2, 1, 1, 0x00620062, 0x00620062) := by decide +kernel
theorem test_finish_position :
    ((nextOf (step (atFinish [0x78, 0x9C, 0x4B, 0x04, 0x00, 0x00, 0x62, 0x00, 0x62]))).map fun s => (pos s, s.bitPos)) =
      some ((9, 0, 0), 72) := by decide +kernel
theorem test_finish_mismatch :
    ((nextOf (step (atFinish [0x78, 0x9C, 0x4B, 0x04, 0x00, 0x00, 0x62, 0x00, 0x63]))).map fun s => (errOf s, s.adler, s.trailer, s.bitCnt)) =
      some ((.error, 0x09, 9, 1, 0), 0x00620062, 0x00620063, 0) := by decide +kernel
theorem test_finish_short_trailer :
    ((nextOf (step (atFinish [0x78, 0x9C, 0x4B, 0x04, 0x00, 0x00, 0x62, 0x00]))).map fun s => (errOf s, s.trailer, s.bitCnt)) =
      some ((.error, 0x06, 5, 1, 0), 0, 0) := by decide +kernel
theorem test_finish_no_verify :
    ((nextOf (step { atFinish [0x78, 0x9C, 0x4B, 0x04, 0x00, 0x00, 0x62, 0x00] with verify := false })).map fun s =>
      (s.fsm, s.done, s.adler, pos s)) = some (.done, true, 0x00620062, (5, 6, 0)) := by decide +kernel

/-! ## Host commands (vectors H1 to H16) -/

/-- One bus access by the host. -/
def bus (addr bytes : Nat) (w : Option Word) (s : State) : State := { s with script := [.bus { addr := addr, bytes := bytes, wdata := w }] }

theorem test_reset : State.reset.ctrlWord = 4 ∧ State.reset.statusWord = 0 ∧ State.reset.bufSize = 0x8000 := by decide
theorem test_start :
    ((nextOf (step (bus 0 4 (some 0x0D) State.reset))).map fun s => (s.statusWord, s.ctrlWord, s.fsm)) = some (1, 0x0C, .zhdr) := by
  decide +kernel
theorem test_start_step : ((nextOf (exec .startStep { State.reset with mode := false, index := 3 })).map fun s => (s.fsm, s.ip)) =
    some (.bhdr, 3) := by decide +kernel
/-- 20_memory.md R42: a byte the host wrote is at OP or above once a decode starts, so it may hold any value; a byte the decode
wrote stays when it ends, and the bytes above it are drawn anew by each step. -/
theorem test_start_draws_out :
    ((nextOf (step (bus 0 4 (some 0x0D) { State.reset with outMem := [(5, 0x33)] }))).map fun s => (s.outMem, s.outDraw)) =
      some ([], 1) := by decide +kernel
theorem test_step_draws_out :
    ((nextOf (step (at_ (inBody (raw p3) []) 1 5 0x09))).map fun s => (s.outMem, s.outDraw)) = some ([(0, 0x61)], 2) := by
  decide +kernel
theorem test_start_busy :
    ((nextOf (step (bus 0 4 (some 0x11) (raw p3)))).map fun s => (s.fsm, s.ie, s.mode)) = some (.bhdr, true, false) := by
  decide +kernel
theorem test_abort :
    ((nextOf (step (bus 0 4 (some 2) { at_ (raw p3) 100 0 0 with op := 2000 }))).map fun s => (s.statusWord, errOf s)) =
      some (0xE04, (.error, 0x0E, 100, 2000, 0)) := by decide +kernel
theorem test_abort_idle :
    ((nextOf (step (bus 0 4 (some 3) State.reset))).map fun s => (s.statusWord, s.ctrlWord)) = some (0, 0) := by decide +kernel
theorem test_config : ((nextOf (step (bus 0 4 (some 0x10) State.reset))).map fun s => (s.ctrlWord, s.fsm)) = some (0x10, .idle) := by
  decide +kernel
theorem test_clear :
    ((nextOf (step (bus 4 4 (some 4) { State.reset with fsm := .error, err := true, errCode := 6 }))).map State.statusWord) =
      some 0x600 := by decide +kernel
theorem test_clear_irq :
    ((nextOf (step (bus 4 4 (some 2) { State.reset with fsm := .done, done := true, ie := true }))).map fun s =>
      (s.statusWord, s.irq)) = some (0, false) := by decide +kernel
theorem test_set_in_len :
    ((nextOf (step (bus 0x0C 4 (some 0x10000) { State.reset with par := { Config.reference with inMemSize := 4096 } }))).map
      fun s => s.inLen.toNat) = some 4096 := by decide +kernel
theorem test_set_params :
    ((nextOf (step (bus 0x08 4 (some 3) State.reset))).map State.index) = some 3 ∧
    ((nextOf (step (bus 0x10 4 (some 5) State.reset))).map State.bufSize) = some 5 := by decide +kernel
theorem test_set_params_busy : ((nextOf (step (bus 0x10 4 (some 5) (raw p3)))).map State.bufSize) = some 0x8000 := by decide +kernel
theorem test_write_ignored : ((nextOf (step (bus 0x18 4 (some 0x12345678) State.reset))).map State.adler) = some 0 := by decide +kernel
theorem test_read_reg :
    ((nextOf (step (bus 4 4 none { State.reset with fsm := .error, err := true, errCode := 3 }))).map State.readData) = some 0x304 ∧
    ((nextOf (step (bus 0xFC 4 none State.reset))).map State.readData) = some 0 := by decide +kernel
theorem test_refused :
    ((nextOf (step (bus 4 2 none State.reset))).map State.refusedMark) = some true ∧
    ((nextOf (step (bus 0x100002 4 none State.reset))).map State.refusedMark) = some true := by decide +kernel
theorem test_in_write :
    ((nextOf (step (bus 0x100004 4 (some 0x04030201) State.reset))).map fun s => (List.range 4).map fun k => (s.inByte (4 + k)).toNat) =
      some [1, 2, 3, 4] := by decide +kernel
theorem test_out_read :
    ((nextOf (step (bus 0x200000 4 none { State.reset with outMem := [(0, 0x68), (1, 0x65), (2, 0x6C), (3, 0x6C), (4, 0x6F)] }))).map
      State.readData) = some 0x6C6C6568 := by decide +kernel
theorem test_busy_write_refused :
    exec (.inAccess { offset := 0, width := .one, wdata := some 1 }) (raw p3) = .refused .hostWriteWhileBusy := rfl
theorem test_rst :
    ((nextOf (step { at_ (inBody (raw p3) [0x61]) 2 5 0 with script := [.reset] })).map fun s =>
      (s.fsm, s.statusWord, s.ctrlWord, outs 1 s)) = some (.idle, 0, 4, [0x61]) := by decide +kernel

/-! ## Witnesses: for each statement with hypotheses, states and operands that meet them -/

/-- The state meets the invariant, has no move of the host to come, and stands in a running state f. -/
def ready (s : State) (f : Fsm) : Bool := decide s.Inv && decide (s.script = []) && s.busy && decide (s.fsm = f)

/-- The step answers a next state whose S satisfies a test. -/
def stepsTo (s : State) (p : Fsm → Bool) : Bool :=
  match step s with
  | .next t => p t.fsm
  | .fault _ => false
  | .refused _ => false

/-- The state meets the invariant and its only move to come is this bus access. -/
def readyFor (s : State) (b : BusAccess) : Bool := decide s.Inv && decide (s.script = [.bus b])

/-- InvHoldsAtReset: parameters at the bounds of R5. -/
theorem witness_params :
    Config.reference.wf ∧
    Params.wf { inMemSize := 2 ^ 31, outMemSize := 1, regBase := 0, inBase := 0x100, outBase := 0x100 + 2 ^ 31 } := by decide

/-- RstLeavesResetValues: a running decode with a reset to come. -/
theorem witness_rst : ({ raw p3 with script := [.reset] } : State).script = [.reset] := rfl

/-- RunningEngineTakesAStep, EveryDecodeEnds, InvKeptByEveryStep, IrqFollowsFlags: a running and a stopped state. -/
theorem witness_running : ready (raw p3) .bhdr = true ∧ stepsTo (raw p3) (· == .body) = true := by decide +kernel
theorem witness_stopped : State.reset.Inv ∧ State.reset.script = [] ∧ State.reset.busy = false := by decide +kernel
theorem witness_launch : (loaded true true p5).Inv ∧ (loaded true true p5).script = [] := by decide +kernel

/-- InvKeptByEveryStep: a step of the host, and RST. -/
theorem witness_host_step :
    (bus 0 4 (some 2) (raw p3)).Inv ∧ stepsTo (bus 0 4 (some 2) (raw p3)) (· == .error) = true := by decide +kernel
theorem witness_reset_step :
    ((raw p3).setScript [.reset]).Inv ∧ stepsTo ((raw p3).setScript [.reset]) (· == .idle) = true := by decide +kernel

/-- InvKeptByEveryStep: a zlib header with BITCNT = 0 (42_block_decoder.md R111) meets the invariant, and so does the state after it; one
with a buffered bit does not, and no step reaches it. -/
theorem witness_zhdr_inv :
    ready (zlib [0x78, 0x9C]) .zhdr = true ∧ (zlib [0x78, 0x9C]).bitCnt = 0 ∧
    ((nextOf (step (zlib [0x78, 0x9C]))).map fun t => ready t .bhdr) = some true ∧
    ready (at_ (zlib [0xFF, 0x78, 0x01]) 1 1 1) .zhdr = false := by decide +kernel

/-- ZlibHeaderStep: the header accepted, and each of its errors. -/
theorem witness_zhdr :
    ready (zlib [0x78, 0x9C]) .zhdr = true ∧ stepsTo (zlib [0x78, 0x9C]) (· == .bhdr) = true ∧
    ready (zlib [0x78, 0x9D]) .zhdr = true ∧ ready (zlib [0x79, 0x00]) .zhdr = true ∧
    ready (zlib [0x78, 0xBB]) .zhdr = true ∧ ready (zlib [0x78]) .zhdr = true := by decide +kernel

/-- ZlibHeaderAcceptedOrRejected: two bytes for each clause. -/
theorem witness_zhdr_checks :
    ((0x78 : BitVec 8).toNat % 16 = 8 ∧ (0x78 * 256 + 0x9C) % 31 = 0 ∧ (0x9C : BitVec 8).getLsbD 5 = false) ∧
    (0x79 : BitVec 8).toNat % 16 ≠ 8 ∧ (0x78 * 256 + 0x9D) % 31 ≠ 0 ∧
    ((0x78 * 256 + 0xBB) % 31 = 0 ∧ (0xBB : BitVec 8).getLsbD 5 = true) := by decide

/-- BlockHeaderStep: the three bits are the last of the input; one bit short of them; no bit left. -/
theorem witness_bhdr :
    (ready (at_ (raw [0x4B]) 1 3 2) .bhdr = true ∧ (at_ (raw [0x4B]) 1 3 2).reader.bitPos + 3 = (at_ (raw [0x4B]) 1 3 2).streamEnd) ∧
    (ready (at_ (raw [0x4B]) 1 2 1) .bhdr = true ∧ (at_ (raw [0x4B]) 1 2 1).reader.bitPos + 3 = (at_ (raw [0x4B]) 1 2 1).streamEnd + 1) ∧
    (ready (raw []) .bhdr = true ∧ (raw []).streamEnd < (raw []).reader.bitPos + 1) := by decide +kernel

/-- EngineTransitionsOfS, ElementsConsumeStreamBits, EngineKeepsInputAndOptions, OutputBelowCursorIsFinal: a step without error from
each running state. -/
theorem witness_transitions_header :
    stepsTo (raw [0x00]) (· == .stored) = true ∧ stepsTo (raw [0x0D]) (· == .dynhdr) = true ∧
    ready (raw [0x00]) .bhdr = true ∧ ready (raw [0x0D]) .bhdr = true := by decide +kernel
theorem witness_transitions_stored :
    ready (atStored [0x01, 0x01, 0x00, 0xFE, 0xFF, 0x61]) .stored = true ∧
    stepsTo (atStored [0x01, 0x01, 0x00, 0xFE, 0xFF, 0x61]) (· == .finish) = true ∧
    ready { atStored [0x01, 0x00, 0x00, 0xFF, 0xFF] with bfinal := 0 } .stored = true ∧
    stepsTo { atStored [0x01, 0x00, 0x00, 0xFF, 0xFF] with bfinal := 0 } (· == .bhdr) = true := by decide +kernel
theorem witness_transitions_dynamic :
    ready { at_ (raw p5) 1 5 1 with fsm := .dynhdr, bfinal := 1, btype := 2 } .dynhdr = true ∧
    ready (atClens 9 1 1 0 0) .clens = true ∧ stepsTo (atClens 9 1 1 0 0) (· == .clens) = true ∧
    ready (atClens 14 6 0x22 257 3) .clens = true ∧ stepsTo (atClens 14 6 0x22 257 3) (· == .dynbuild) = true ∧
    ready { atClens 14 2 2 260 3 with fsm := .dynbuild, lens := p5Lens } .dynbuild = true := by decide +kernel
theorem witness_transitions_body :
    ready (at_ (inBody (raw p3) []) 1 5 0x09) .body = true ∧ stepsTo (at_ (inBody (raw p3) []) 1 5 0x09) (· == .body) = true ∧
    ready (at_ (inBody (raw p3) [0x61, 0x61, 0x61, 0x61]) 3 1 0) .body = true ∧
    stepsTo (at_ (inBody (raw p3) [0x61, 0x61, 0x61, 0x61]) 3 1 0) (· == .finish) = true := by decide +kernel

/-- FinishStep: no trailer to check, a short one, a wrong one, a right one. -/
theorem witness_finish :
    ready { atFinish [0x78, 0x9C, 0x4B, 0x04, 0x00] with verify := false } .finish = true ∧
    ready (atFinish [0x78, 0x9C, 0x4B, 0x04, 0x00, 0x00, 0x62, 0x00]) .finish = true ∧
    ready (atFinish [0x78, 0x9C, 0x4B, 0x04, 0x00, 0x00, 0x62, 0x00, 0x63]) .finish = true ∧
    ready (atFinish [0x78, 0x9C, 0x4B, 0x04, 0x00, 0x00, 0x62, 0x00, 0x62]) .finish = true := by decide +kernel

/-- ErrorsArePrecise: a step that raises. -/
theorem witness_errors :
    ready (at_ (inBody (raw [0x4B, 0x04, 0x3E]) [0x61]) 2 5 0) .body = true ∧
    stepsTo (at_ (inBody (raw [0x4B, 0x04, 0x3E]) [0x61]) 2 5 0) (· == .error) = true := by decide +kernel

/-- OutcomeDependsOnLaunchAlone: two states with the same launch and different memories, and a run of the first. -/
theorem witness_launches :
    (loaded false false p3).Inv ∧ ({ loaded false false p3 with outMem := [(0, 7)], adler := 9, clIdx := 5 } : State).Inv ∧
    (loaded false false p3).par = ({ loaded false false p3 with outMem := [(0, 7)], adler := 9, clIdx := 5 } : State).par ∧
    (∃ t, core.run 2 (loaded false false p3).startInit = .next t) := by
  refine ⟨by decide +kernel, by decide +kernel, rfl, ?_⟩
  have h : (nextOf (core.run 2 (loaded false false p3).startInit)).isSome = true := by decide +kernel
  revert h
  cases hr : core.run 2 (loaded false false p3).startInit with
  | next t => exact fun _ => ⟨t, rfl⟩
  | fault f => exact fun h => absurd h (by simp [nextOf])
  | refused r => exact fun h => absurd h (by simp [nextOf])

/-- The element decoded at the engine's place. -/
def decodedAt (s : State) : Option Decoded := s.place.map fun c => decode c s.readIn s.inLen.toNat s.reader

/-- StepRunsDecodedElement, DecodedElementsAreWellFormed: an element of one part, with an empty script and with an engine move. -/
theorem witness_decoded :
    decodedAt (raw p3) = some (.instr (.blockFixed 1) { ip := 1, cnt := 5, buf := 9 }) ∧ (raw p3).script = [] ∧
    decodedAt { raw p3 with script := [.engine] } = some (.instr (.blockFixed 1) { ip := 1, cnt := 5, buf := 9 }) ∧
    ((nextOf (exec (.blockFixed 1) ((raw p3).advance.withReader { ip := 1, cnt := 5, buf := 9 }))).map State.pend) =
      some .none := by decide +kernel
theorem witness_internal :
    ({ raw p3 with fsm := .dynbuild } : State).pend = .none ∧ ({ raw p3 with fsm := .dynbuild } : State).script = [] ∧
    ({ raw p3 with fsm := .finish } : State).pend = .none ∧ ({ raw p3 with fsm := .finish } : State).script = [] := by decide +kernel

/-- StepTakesReadErrors: a block header with no bit left; a distance cut short, as a part and after its length. -/
theorem witness_read_error :
    decodedAt (raw []) = some (.raise .truncatedInput { ip := 0, cnt := 0, buf := 0 } []) ∧ (raw []).script = [] := by decide +kernel
theorem witness_read_error_later :
    decodedAt ((at_ (inBody (raw [0x40]) []) 1 1 0).setPend (.distance 3)) =
      some (.raise .truncatedInput { ip := 1, cnt := 1, buf := 0 } []) ∧
    (nextOf (runPart exec (inBody (raw [0x40]) []).advance)).map (fun s => (s.pend, pos s)) = some (.distance 3, (1, 1, 0)) := by
  decide +kernel

/-- StepRunsHostMove: a bus access, RST, an engine's turn while the engine is stopped. -/
theorem witness_host_moves :
    decodeBus (bus 8 4 (some 3) State.reset).par { addr := 8, bytes := 4, wdata := some 3 } = some (.setIndex 3) ∧
    (bus 8 4 (some 3) State.reset).script = [.bus { addr := 8, bytes := 4, wdata := some 3 }] ∧
    ({ State.reset with script := [.engine] } : State).busy = false ∧ ({ State.reset with script := [.engine] } : State).pend = .none := by
  decide +kernel

/-- RefusedAccessChangesNothing: no window, wrong width, misaligned, past a window's end. -/
theorem witness_refused :
    [({ addr := 0x300000, bytes := 1, wdata := none } : BusAccess), { addr := 4, bytes := 2, wdata := none },
      { addr := 0x100002, bytes := 4, wdata := none }, { addr := 0x1FFFFF, bytes := 2, wdata := some 1 }].all
      (fun b => (decodeBus Config.reference b).isNone) = true := by decide +kernel

/-- FixedWordsRoundTrip: an instruction of every place. -/
theorem witness_fixed_places :
    (Instr.zhdr 0x78 0x9C).fixedPlace = some .zhdr ∧ (Instr.blockReserved 1).fixedPlace = some .block ∧
    (Instr.lenNlen 5 0).fixedPlace = some .stored ∧ (Instr.data 0).fixedPlace = some .data ∧ (Instr.dyn 0 0 0).fixedPlace = some .dyn ∧
    (Instr.cll 7).fixedPlace = some .cll ∧ (Instr.trailer 0).fixedPlace = some .trailer := by decide +kernel
theorem witness_fixed_symbols :
    Instr.lit61.fixedPlace = some (.litLen true flit) ∧ (Instr.len284 31).fixedPlace = some (.litLen true flit) ∧
    Instr.eob.fixedPlace = some (.litLen true flit) ∧ (Instr.dist29 0x1FFF).fixedPlace = some (.dist true fdist) :=
  ⟨rfl, rfl, rfl, rfl⟩

/-- TableCodedWordsRoundTrip: a literal, a length, a distance and a code-length symbol of the tables of program P5. -/
theorem witness_coded :
    (p5Litt.codes 97 1 0 ∧ encode (.litDyn 97) = .coded 97 0 0) ∧ (p5Litt.codes 257 3 7 ∧ encode (.lenDyn 0 0) = .coded 257 0 0) ∧
    (p5Distt.codes 1 3 4 ∧ encode (.distDyn 1 0) = .coded 1 0 0) ∧ (p5Clt.codes 18 2 1 ∧ encode (.cl18 127) = .coded 18 7 127) := by
  unfold Table.codes
  decide +kernel

/-- HostAccessesRoundTrip: an access at the end of each window. -/
theorem witness_host_round_trip :
    Config.reference.wf ∧
    decodeBus Config.reference { addr := 0xFC, bytes := 4, wdata := none } = some (.readReg 0xFC) ∧
    decodeBus Config.reference { addr := 0x1FFFFC, bytes := 4, wdata := none } =
      some (.inAccess { offset := 0xFFFFC, width := .four, wdata := none }) ∧
    decodeBus Config.reference { addr := 0x2FFFFF, bytes := 1, wdata := none } =
      some (.outAccess { offset := 0xFFFFF, width := .one, wdata := none }) := by decide

/-- ReadBitsReturnsStreamBits, ReadCodeConsumesItsCode: bits held; the last n bits of the input, and one more than there are. -/
theorem witness_reader :
    ({ ip := 1, cnt := 7, buf := 0x25 } : Reader).Holds (fun _ => 0x4B) ∧
    ({ ip := 1, cnt := 7, buf := 0x25 } : Reader).bitPos + 7 = 8 * Nat.max 1 1 ∧
    8 * Nat.max 1 1 < ({ ip := 1, cnt := 7, buf := 0x25 } : Reader).bitPos + 8 := by decide

/-- BuiltSlotsAreEmptyOrUsed, CanonicalCodesAreDecoded: a complete code, at the bound of the sum, and the longest length; and lengths
that are all 0. -/
theorem witness_lengths :
    (∀ x ∈ [2, 1, 3, 3], x ≤ 15) ∧ notOversubscribed [2, 1, 3, 3] ∧ ([2, 1, 3, 3] : List Nat)[3]? = some 3 ∧
    (∀ x ∈ [15, 0], x ≤ 15) ∧ notOversubscribed [15, 0] ∧ (∀ x ∈ [0, 0], x = 0) ∧ (∃ x ∈ [15, 0], x ≠ 0) := by
  unfold notOversubscribed
  decide

/-- StoredHeaderChecks, StoredBlockStep: the complement, the wrong complement, data that just fits and does not, output that does not. -/
theorem witness_stored_checks :
    (5 : BitVec 16) = 0xFFFA ^^^ 0xFFFF ∧ (5 : BitVec 16) ≠ 0xFF05 ^^^ 0xFFFF ∧
    (raw p3).cap.toNat ≤ (raw p3).par.outMemSize ∧ (raw p3).par.outMemSize ≤ 2 ^ 31 ∧
    (raw p3).ip.toNat + (4 : BitVec 16).toNat = (raw p3).inLen.toNat ∧ (raw p3).inLen.toNat < (raw p3).ip.toNat + (5 : BitVec 16).toNat := by
  decide +kernel
theorem witness_stored_step :
    ready (atStored [0x01, 0x05, 0x00, 0xFA]) .stored = true ∧ ready (atStored [0x01, 0x05, 0x00, 0x05, 0xFF]) .stored = true ∧
    ready (atStored [0x01, 0x05, 0x00, 0xFA, 0xFF, 0x68, 0x65, 0x6C, 0x6C]) .stored = true ∧
    ready (atStored [0x01, 0x05, 0x00, 0xFA, 0xFF, 0x68, 0x65, 0x6C, 0x6C, 0x6F]) .stored = true := by decide +kernel
theorem witness_stored_overflow :
    ready { atStored [0x01, 0x02, 0x00, 0xFD, 0xFF, 1, 2] with par := { Config.reference with outMemSize := 1 }, cap := 1 } .stored =
      true := by decide +kernel
theorem witness_stored_byte :
    (raw p3).op.toNat < (raw p3).par.outMemSize ∧ ((raw p3).setPend (.storedData 1)).pend = .storedData (0 + 1) := by decide +kernel

/-- DynamicHeaderElements, DynamicHeaderStep: a length before the last, the last; the whole header there, and cut. -/
theorem witness_dynamic_elements :
    ((atClens 9 1 1 0 0).setPend (.clLengths 16)).hclen.toNat = 18 ∧ 16 + 1 < 18 ∧ 17 + 1 = 18 ∧
    ((atClens 9 1 1 0 0).setPend (.clLengths 17)).pend = .clLengths 17 := by decide +kernel
theorem witness_dynamic_step :
    (ready { at_ (raw p5) 1 5 1 with fsm := .dynhdr, btype := 2 } .dynhdr = true ∧
      streamField (at_ (raw p5) 1 5 1).inByte 13 4 + 4 = 18 ∧ 3 + 14 + 3 * 18 ≤ (at_ (raw p5) 1 5 1).streamEnd) ∧
    (ready { at_ (raw [0x0D, 0xC1]) 1 5 1 with fsm := .dynhdr, btype := 2 } .dynhdr = true ∧
      (at_ (raw [0x0D, 0xC1]) 1 5 1).streamEnd < 3 + 14) := by decide +kernel

/-- CodeLengthSymbolsWriteOneLength, CodeLengthRepeats: the last entry; a repeat that just ends at HLIT + HDIST, and one past it. -/
theorem witness_code_lengths :
    Instr.cl15.clSymbol = some (15, 0) ∧ (atClens 9 1 1 319 0).clIdx.toNat < 320 ∧ (atClens 9 1 1 0 0).pend = .none ∧
    (atClens 14 6 0 257 3).clIdx.toNat + 3 = (atClens 14 6 0 257 3).hlit.toNat + (atClens 14 6 0 257 3).hdist.toNat ∧
    (atClens 14 6 0 257 3).hlit.toNat + (atClens 14 6 0 257 3).hdist.toNat < (atClens 14 6 0 258 3).clIdx.toNat + 3 := by
  decide +kernel

/-- LiteralWritesItsByte: the last byte of OUT, and one past it. -/
theorem witness_literal :
    Instr.lit00.literalOf = some 0 ∧ (Instr.litDyn 0xFF).literalOf = some 0xFF ∧
    ({ raw p3 with op := 0xFFFFF } : State).op.toNat < ({ raw p3 with op := 0xFFFFF } : State).par.outMemSize ∧
    ({ raw p3 with op := 0x100000 } : State).par.outMemSize ≤ ({ raw p3 with op := 0x100000 } : State).op.toNat := by decide +kernel

/-- EndOfBlockRewinds: two whole bytes to give back. -/
theorem witness_eob : (at_ (raw p3) 10 17 0x1FFAB).bitCnt.toNat ≤ 8 * (at_ (raw p3) 10 17 0x1FFAB).ip.toNat := by decide +kernel

/-- LengthSymbolsGiveTheirLength: the shortest and the longest, of either code. -/
theorem witness_length_symbols :
    Instr.len257.lengthOf = some 3 ∧ Instr.len285.lengthOf = some 258 ∧ (Instr.lenDyn 0 0).lengthOf = some 3 ∧
    (Instr.lenDyn 27 31).lengthOf = some 258 ∧ (Instr.lenDyn 27 31).wellFormed = true := by decide

/-- MatchCopiesForward, InvalidMatchesRaise: the match ends at the last byte of OUT and begins at the first; one byte less of either. -/
theorem witness_match :
    Instr.dist0.distanceOf = some 1 ∧ (Instr.distDyn 29 8191).distanceOf = some 32768 ∧ (Instr.distDyn 29 8191).wellFormed = true ∧
    (({ raw p3 with op := 32768, pend := .distance 258 } : State).pend = .distance 258) ∧
    32768 ≤ ({ raw p3 with op := 32768 } : State).op.toNat ∧ ({ raw p3 with op := 32767 } : State).op.toNat < 32768 ∧
    ({ raw p3 with op := 0xFFEFE } : State).op.toNat + 258 = ({ raw p3 with op := 0xFFEFE } : State).par.outMemSize ∧
    ({ raw p3 with op := 0xFFEFF } : State).par.outMemSize < ({ raw p3 with op := 0xFFEFF } : State).op.toNat + 258 := by
  decide +kernel

/-- What follows a length symbol: the symbol, and its distance as it is decoded. -/
def pairAt (s : State) : Option (Instr × Decoded) :=
  match decodedAt s with
  | some (.instr i r) => some (i, decode (.dist s.fixedBody s.distt) s.readIn s.inLen.toNat r)
  | _ => none

/-- LengthDistancePairStep: a distance cut short, the invalid symbols of each code, and a distance of 1. -/
theorem witness_pair :
    ready (inBody (raw [0x40]) []) .body = true ∧
    pairAt (inBody (raw [0x40]) []) = some (.len257, .raise .truncatedInput { ip := 1, cnt := 1, buf := 0 } []) ∧
    ready (inBody (raw [0xC0, 0x07]) []) .body = true ∧
    pairAt (inBody (raw [0xC0, 0x07]) []) = some (.len257, .instr .distInvalid11110 { ip := 2, cnt := 9, buf := 0x0F }) ∧
    ready (inBody (raw [0x40, 0x00]) [0x61]) .body = true ∧
    pairAt (inBody (raw [0x40, 0x00]) [0x61]) = some (.len257, .instr .dist0 { ip := 2, cnt := 4, buf := 0 }) := by decide +kernel
theorem witness_pair_dynamic :
    ready { inBody (raw [0xC0, 0x07]) [] with btype := 2, distt := buildTable (List.replicate 32 5) } .body = true ∧
    pairAt { inBody (raw [0xC0, 0x07]) [] with btype := 2, distt := buildTable (List.replicate 32 5) } =
      some (.lenDyn 0 0, .instr (.distInvalid 30) { ip := 2, cnt := 4, buf := 0 }) := by decide +kernel

/-- LengthDistancePairStep: no output byte yet; a match that just fits OUT, and one past it. -/
theorem witness_pair_bounds :
    ready (inBody (raw [0x40, 0x00]) []) .body = true ∧ stepsTo (inBody (raw [0x40, 0x00]) []) (· == .error) = true ∧
    ready (inBody { raw [0x40, 0x00] with par := { Config.reference with outMemSize := 4 }, cap := 1 } [0x61]) .body = true ∧
    stepsTo (inBody { raw [0x40, 0x00] with par := { Config.reference with outMemSize := 4 }, cap := 1 } [0x61]) (· == .body) = true ∧
    ready (inBody { raw [0x40, 0x00] with par := { Config.reference with outMemSize := 3 }, cap := 1 } [0x61]) .body = true ∧
    stepsTo (inBody { raw [0x40, 0x00] with par := { Config.reference with outMemSize := 3 }, cap := 1 } [0x61]) (· == .error) =
      true := by decide +kernel

/-- GrowRepeatsUntilItFits: a write that fits, one that just fits OUT, one that does not. -/
theorem witness_grow :
    (raw p3).cap.toNat = 32768 ∧ 32768 ≤ (raw p3).cap.toNat ∧ (raw p3).cap.toNat < 0x100000 ∧
    0x100000 ≤ (raw p3).par.outMemSize ∧ (raw p3).par.outMemSize < 0x100001 := by decide +kernel

/-- NewCapacityFormulas: nothing read; more read than left; as much left as read; a table with no code. -/
theorem witness_new_capacity :
    (raw p3).ip = (raw p3).index ∧
    ((at_ (raw p3) 3 0 0).index.toNat < (at_ (raw p3) 3 0 0).ip.toNat ∧
      (at_ (raw p3) 3 0 0).inLen.toNat - 3 < 3 - (at_ (raw p3) 3 0 0).index.toNat ∧ (at_ (raw p3) 3 0 0).litt.min ≠ 0) ∧
    2 - (at_ (raw p3) 2 0 0).index.toNat = (at_ (raw p3) 2 0 0).inLen.toNat - 2 ∧ (buildTable [0, 0]).min = 0 := by decide +kernel

/-- FinishAndTrailerComplete: with and without a trailer to check. -/
theorem witness_finish_parts :
    ((zlib p5).mode && (zlib p5).verify) = true ∧ ((raw p3).mode && (raw p3).verify) = false ∧
    (raw p3).op.toNat ≤ (raw p3).par.outMemSize := by decide +kernel

/-- StartWriteBeginsDecode, AbortStopsRunningDecode, ConfigAndClearWriteTheirFields, ParametersWrittenWhenIdle: values with
the bits the clauses name, while the engine is busy and while it is not. -/
theorem witness_ctrl_values :
    ((0x0D : Word).getLsbD 0 = true ∧ (0x0D : Word).getLsbD 1 = false) ∧ (0x03 : Word).getLsbD 1 = true ∧
    ((0x10 : Word).getLsbD 0 = false ∧ (0x10 : Word).getLsbD 1 = false) ∧ ((6 : Word).getLsbD 1 = true ∧ (6 : Word).getLsbD 2 = true) ∧
    State.reset.busy = false ∧ (raw p3).busy = true ∧ (raw p3).pend = .none ∧ State.reset.par.inMemSize ≤ 2 ^ 31 := by decide +kernel

/-- RegisterReads: the first and last result register, and a reserved offset. -/
theorem witness_offsets :
    0x14 ≤ (0x14 : BitVec 8).toNat ∧ (0x2C : BitVec 8).toNat ≤ 0x2C ∧ 0x30 ≤ (0x30 : BitVec 8).toNat := by decide

/-- WindowReadsReturnBytes, WindowWritesStoreBytes: the last word of each window. -/
theorem witness_windows :
    ({ offset := 0xFFFFC, width := .four, wdata := none } : MemAccess).legal State.reset.par.inMemSize = true ∧
    ({ offset := 0xFFFFC, width := .four, wdata := some 1 } : MemAccess).legal State.reset.par.outMemSize = true := by decide

/-- HostKeepsRunningDecode: a write of BUFSIZE during a decode. -/
theorem witness_host_during_decode :
    readyFor (bus 0x10 4 (some 5) (raw p3)) { addr := 0x10, bytes := 4, wdata := some 5 } = true ∧
    (bus 0x10 4 (some 5) (raw p3)).busy = true ∧
    decodeBus Config.reference { addr := 0x10, bytes := 4, wdata := some 5 } = some (.setBufSize 5) ∧
    stepsTo (bus 0x10 4 (some 5) (raw p3)) (· == .bhdr) = true := by decide +kernel

end Sys2Proof.Tests
end

section
/-! PROOFS. The scope of a step (00_scope.md): which instruction a step of the engine or of the host runs, and how a read that raises
ends it. -/

namespace Sys2Proof.Machine

/-! ## The laws of the two agents' steps -/

@[simp] theorem State.setScript_place (s : State) (ms : List Move) : (s.setScript ms).place = s.place := rfl

/-- The engine stands at a place of the stream only while it is busy or a part of its step is left. -/
theorem State.busy_or_pend_of_place {s : State} {c : Ctx} (h : s.place = some c) : (s.busy || s.pend != .none) = true := by
  by_cases hp : s.pend = .none
  · cases hf : s.fsm <;> simp [State.place, State.busy, Fsm.running, hp, hf] at h ⊢
  · simp [hp]

/-- A step that reads no bits stands at no place of the stream. -/
theorem State.place_of_internalStep {s : State} {i : Instr} (h : s.internalStep = some i) : s.place = none := by
  unfold State.internalStep at h
  split at h
  case h_1 hp => simp only [State.place, hp]
  case h_2 hp hf => simp only [State.place, hp, hf]
  case h_3 hp hf => simp only [State.place, hp, hf]
  case h_4 => contradiction

/-- An engine step whose bits decode to an instruction runs it, then the parts it left. -/
theorem engineStep_instr (run : Instr → State → Host.Outcome State Fault Refusal) {s : State} {c : Ctx} {i : Instr} {r : Reader}
    (hp : s.place = some c) (hd : decode c s.readIn s.inLen.toNat s.reader = .instr i r) :
    engineStep run s = thenParts run (run i (s.advance.withReader r)) := by
  rw [engineStep, runPart_instr run (s := s.advance) hp hd]

/-- A part whose read raises ends the step, however many parts could follow. -/
theorem runParts_raise (run : Instr → State → Host.Outcome State Fault Refusal) {s : State} {c : Ctx} {e : ErrorCode} {r : Reader}
    {got : List Nat} (hp : s.place = some c) (hd : decode c s.readIn s.inLen.toNat s.reader = .raise e r got)
    (h : s.pend ≠ .none) (n : Nat) :
    runParts run (n + 1) s = .next (((s.withReader r).keepRead c got).enterError e) := by
  rw [runParts_succ run h, runPart_raise run hp hd]
  exact runParts_done (State.enterError_pend _ e) n

/-- With an engine move next and an element to read, the step is the engine's. -/
theorem step_engineMove_of_place {s : State} {c : Ctx} {ms : List Move} (h : s.script = .engine :: ms) (hp : s.place = some c) :
    step s = engineStep exec (s.setScript ms) := by
  rw [step_engineMove h, if_pos (State.busy_or_pend_of_place hp)]

/-- An engine's step that reads no bits runs its instruction, then the parts it left. -/
theorem step_internal {s : State} {i : Instr} (h : s.script = []) (hi : s.internalStep = some i) :
    step s = thenParts exec (exec i s.advance) := by
  rw [step_engine h, runPart_internal exec (s := s.advance) (State.place_of_internalStep hi) hi]

/-- A host access that a window takes runs its instruction; a write advances the draws of the unspecified values. -/
theorem hostStep_access (run : Instr → State → Host.Outcome State Fault Refusal) {s : State} {b : BusAccess} {i : Instr}
    (h : decodeBus s.par b = some i) : hostStep run b s = thenParts run (run i (if b.wdata.isSome then s.advance else s)) := by
  rw [hostStep, h]

theorem exec_rst (s : State) : exec .rst s = .next s.applyReset := rfl

/-! ## The statements -/

/-- Settles O13: the two kinds of engine move come to the same engine step; DYNBUILD and FINISH are the internal steps. -/
theorem stepRunsDecodedElement : Obligations.StepRunsDecodedElement := by
  unfold Obligations.StepRunsDecodedElement
  intro s c i r hp hd
  have hstep : s.script = [] → step s = thenParts exec (exec i (s.advance.withReader r)) := fun h =>
    (step_engine h).trans (engineStep_instr exec hp hd)
  refine ⟨hstep, fun ms h => ?_, fun t h hi ht => ?_, ?_⟩
  · rw [step_engineMove_of_place h hp]
    exact engineStep_instr exec (s := s.setScript ms) hp hd
  · rw [hstep h, hi, thenParts_next ht]
  · rintro u f j (⟨rfl, rfl⟩ | ⟨rfl, rfl⟩) hpend h hf
    all_goals exact step_internal h (by simp only [State.internalStep, hpend, hf])

/-- Settles O14: error entry leaves no part, so the part whose read raised is the step's last. -/
theorem stepTakesReadErrors : Obligations.StepTakesReadErrors := by
  unfold Obligations.StepTakesReadErrors
  intro s c e r got hp hd
  refine ⟨fun h => ?_, runParts_raise exec hp hd, fun hpend u h hu => ?_⟩
  · rw [step_engine h, runPart_raise exec (s := s.advance) hp hd]
    exact thenParts_next (State.enterError_pend _ e)
  · rw [step_engine h, hu]
    exact runParts_raise exec hp hd hpend _

/-- Settles O15: the move at the head of the script says whose step it is. -/
theorem stepRunsHostMove : Obligations.StepRunsHostMove := by
  unfold Obligations.StepRunsHostMove
  intro s ms
  refine ⟨fun b i h hi => ?_, fun h => ?_, fun h hbusy hpend => ?_⟩
  · rw [step_bus h]
    exact hostStep_access exec (s := s.setScript ms) hi
  · rw [step_reset h, exec_rst]
  · rw [step_engineMove h, hbusy, hpend]
    rfl

end Sys2Proof.Machine
end

section
/-! PROOFS. The instructions by shape and by place: what the rows of one shape run, and what a decode at each place of the stream can
answer over an input whose bytes exist. -/

namespace Sys2Proof.Machine

/-! ## What the instructions of one shape run -/

/-- A literal of either code runs the one meaning of its byte (43_lz77_copy.md R141). -/
theorem exec_of_literalOf {i : Instr} {v : Byte} (h : i.literalOf = some v) (s : State) : exec i s = literal v s := by
  cases i <;> cases h <;> rfl

/-- A length symbol of either code leaves the distance of its pair to be read (R143). -/
theorem exec_of_lengthOf {i : Instr} {n : Nat} (h : i.lengthOf = some n) (s : State) :
    exec i s = .next (s.setPend (.distance n)) := by
  cases i <;> cases h <;> rfl

/-- A distance symbol with an entry, of either code, copies its match (R143, R144). -/
theorem exec_of_distanceOf {i : Instr} {d : Nat} (h : i.distanceOf = some d) (s : State) :
    exec i s = (copyMatch d s).finish := by
  cases i <;> cases h <;> rfl

/-- A code-length symbol writes one length, or repeats one (42_block_decoder.md R115 to R118). -/
theorem exec_of_clSymbol {i : Instr} {p : Nat × Nat} (h : i.clSymbol = some p) (s : State) :
    (∃ v, exec i s = .next (oneLength v s)) ∨ ∃ n v, exec i s = (repeatLength n v s).finish := by
  unfold Instr.clSymbol at h
  split at h
  case h_17 | h_18 | h_19 => exact .inr ⟨_, _, rfl⟩
  case h_20 => cases h
  all_goals exact .inl ⟨_, rfl⟩

end Sys2Proof.Machine

namespace Sys2Proof

open Sys2Proof.Machine

/-! ## The rows a decoder's lists name -/

theorem fixedLiterals_literalOf : ∀ i ∈ fixedLiterals, i.literalOf.isSome := by decide +kernel

theorem fixedLengths_lengthOf : ∀ f ∈ fixedLengths, ∀ e, (f e).lengthOf.isSome := by
  simp [fixedLengths, Instr.lengthOf, Instr.fixedLength]

theorem fixedDistances_distanceOf : ∀ f ∈ fixedDistances, ∀ e, (f e).distanceOf.isSome := by
  simp [fixedDistances, Instr.distanceOf, Instr.fixedDistance]

theorem clLiterals_clSymbol : ∀ i ∈ clLiterals, i.clSymbol.isSome := by decide

/-! ## What a read leaves -/

/-- The reader between two reads of a decode: what it buffers is the stream from BP on, at most 22 bits of it, and IP is not past `top`
(10_state.md R22, R33). -/
def Machine.Reader.Ok (b : Nat → Byte) (top : Nat) (r : Reader) : Prop := r.Holds b ∧ r.cnt ≤ 22 ∧ r.ip ≤ top

/-- A read finds its bytes and ends with a sound reader: with a value as P says, or with an error that can be raised. -/
def Machine.Read.Meets (b : Nat → Byte) (top : Nat) (P : α → Reader → Prop) : Read α → Prop
  | .ok a r => r.Ok b top ∧ P a r
  | .raise e r => r.Ok b top ∧ e ≠ .invalidInputType
  | .noByte _ => False

/-- A decode finds its bytes and ends with a sound reader: with an instruction as P says, or with an error that can be raised after
fields of at most 5 bits. -/
def Decoded.Meets (b : Nat → Byte) (top : Nat) (P : Instr → Reader → Prop) : Decoded → Prop
  | .instr i r => r.Ok b top ∧ P i r
  | .raise e r got => r.Ok b top ∧ e ≠ .invalidInputType ∧ ∀ v ∈ got, v < 32
  | .noByte _ => False

theorem Machine.Reader.Ok.byteAlign {b : Nat → Byte} {top : Nat} {r : Reader} (h : r.Ok b top) : r.byteAlign.Ok b top :=
  ⟨(r.byteAlign_holds b).1, Nat.zero_le _, h.2.2⟩

/-- The rewind keeps the bit position and what is buffered from it on (40_bitreader.md R94). -/
theorem Machine.Reader.Ok.eobRewind {b : Nat → Byte} {top : Nat} {r : Reader} (h : r.Ok b top) : r.eobRewind.Ok b top := by
  obtain ⟨⟨hcnt, -, hbits⟩, -, hip⟩ := h
  obtain ⟨hlt, hip', hbuf⟩ := r.eobRewind_bounds
  have hmod : r.eobRewind.cnt = r.cnt % 8 := rfl
  have hpos : r.eobRewind.bitPos = r.bitPos := by simp only [Reader.bitPos, hip', hmod]; omega
  refine ⟨⟨by omega, hbuf, fun i hi => ?_⟩, by omega, by omega⟩
  rw [hpos, ← hbits i (by omega)]
  simp only [Reader.eobRewind, Nat.testBit_mod_two_pow, hmod ▸ hi, decide_true, Bool.true_and]

theorem Decoded.Meets.imp {b : Nat → Byte} {top : Nat} {P Q : Instr → Reader → Prop} {x : Decoded} (h : x.Meets b top P)
    (hPQ : ∀ i r, P i r → Q i r) : x.Meets b top Q :=
  match x, h with
  | .instr i r, h => ⟨h.1, hPQ i r h.2⟩
  | .raise _ _ _, h => h

/-- A decode that goes on with a read. -/
theorem Machine.Read.Meets.thenDecode {b : Nat → Byte} {top : Nat} {P : α → Reader → Prop} {Q : Instr → Reader → Prop}
    {x : Read α} (h : x.Meets b top P) {got : List Nat} (hgot : ∀ v ∈ got, v < 32) {k : α → Reader → Decoded}
    (hk : ∀ a r, r.Ok b top → P a r → (k a r).Meets b top Q) : (x.thenDecode got k).Meets b top Q :=
  match x, h with
  | .ok a r, h => hk a r h.1 h.2
  | .raise _ _, h => ⟨h.1, h.2, hgot⟩

/-- Every symbol above 256 has one of the 31 length indexes (30_encoding.md R70). -/
theorem lengthIndex_lt (sym : Nat) : lengthIndex sym < 31 := Nat.lt_succ_of_le (Nat.min_le_right _ _)

theorem litLenExtraBits_le (sym : Nat) : litLenExtraBits sym ≤ 15 := by
  unfold litLenExtraBits
  split
  · omega
  · exact le_trans (Laws.EncodingFits.lengthExtraBits_le _) (by decide)

theorem clExtraBits_le (sym : Nat) : clExtraBits sym ≤ 15 := by unfold clExtraBits; split_ifs <;> omega

/-! ## The instructions a symbol stands for -/

/-- An instruction of a block body's literal/length code (30_encoding.md R69, R70). -/
def Instr.isLitLen (i : Instr) : Prop := i.literalOf.isSome ∨ i = .eob ∨ i = .eobDyn ∨ i.lengthOf.isSome

/-- An instruction of a block body's distance code (30_encoding.md R71). -/
def Instr.isDist (i : Instr) : Prop :=
  i.distanceOf.isSome ∨ (∃ d, i = .distInvalid d) ∨ i = .distInvalid11110 ∨ i = .distInvalid11111

theorem fixedLitLenOf_isLitLen (sym e : Nat) : (fixedLitLenOf sym e).isLitLen := by
  unfold fixedLitLenOf
  split_ifs with h₁ h₂
  · have hlen : fixedLiterals.length = 256 := by decide +kernel
    rw [List.getD_eq_getElem _ _ (by omega)]
    exact .inl (fixedLiterals_literalOf _ (List.getElem_mem _))
  · exact .inr (.inl rfl)
  · have hlen : fixedLengths.length = 31 := rfl
    rw [List.getD_eq_getElem _ _ (hlen ▸ lengthIndex_lt sym)]
    exact .inr (.inr (.inr (fixedLengths_lengthOf _ (List.getElem_mem _) e)))

theorem dynLitLenOf_isLitLen (sym e : Nat) : (dynLitLenOf sym e).isLitLen := by
  unfold dynLitLenOf
  split_ifs
  · exact .inl rfl
  · exact .inr (.inr (.inl rfl))
  · exact .inr (.inr (.inr rfl))

theorem fixedDistanceOf_isDist {d : Nat} (e : Nat) (h : d < 30) : (fixedDistanceOf d e).isDist := by
  have hlen : fixedDistances.length = 30 := rfl
  rw [fixedDistanceOf, List.getD_eq_getElem _ _ (hlen ▸ h)]
  exact .inl (fixedDistances_distanceOf _ (List.getElem_mem _) e)

theorem clOf_clSymbol (sym e : Nat) : (clOf sym e).clSymbol.isSome := by
  unfold clOf
  split_ifs with h₁ h₂ h₃
  · have hlen : clLiterals.length = 16 := rfl
    rw [List.getD_eq_getElem _ _ (by omega)]
    exact clLiterals_clSymbol _ (List.getElem_mem _)
  all_goals rfl

/-! ## Reads over an input whose bytes exist -/

section Input

variable {byte : Nat → Option Byte} {b : Nat → Byte} {len top : Nat}

theorem Machine.readBits_meets (hb : ∀ a, a < len → byte a = some (b a)) (ht : len ≤ top) {n : Nat} (hn : n ≤ 15) {r : Reader}
    (h : r.Ok b top) : (readBits byte len n r).Meets b top fun v _ => v < 2 ^ n := by
  obtain ⟨hholds, hcnt, hip⟩ := h
  rcases readBits_cases hb n r hholds with ⟨r', e, hh, hc, -, -, hi⟩ | ⟨r', hh, hc, -, hi, hbound, e⟩
  · rw [e]
    exact ⟨⟨hh, by omega, le_trans hi (Nat.max_le.2 ⟨hip, ht⟩)⟩, by decide⟩
  · rw [e]
    refine ⟨⟨(Reader.consume_holds hh hc).1, ?_, le_trans hi (Nat.max_le.2 ⟨hip, ht⟩)⟩, Nat.mod_lt _ (by positivity)⟩
    show r'.cnt - n ≤ 22
    omega

theorem Machine.readCode_meets (hb : ∀ a, a < len → byte a = some (b a)) (ht : len ≤ top) (t : Table) {r : Reader} (h : r.Ok b top) :
    (readCode byte len t r).Meets b top fun _ _ => True := by
  obtain ⟨hholds, hcnt, hip⟩ := h
  obtain ⟨r', -, hh, -, hi, hbound, e⟩ := readCode_cases hb t r hholds
  have hmax := t.max.isLt
  have hcnt' : r'.cnt ≤ 22 := by omega
  have hip' : r'.ip ≤ top := le_trans hi (Nat.max_le.2 ⟨hip, ht⟩)
  rw [e]
  split_ifs with h₀ h₁
  · exact ⟨⟨hh, hcnt', hip'⟩, by decide⟩
  · exact ⟨⟨hh, hcnt', hip'⟩, by decide⟩
  · refine ⟨⟨(Reader.consume_holds hh (Nat.le_of_not_lt h₁)).1, ?_, hip'⟩, trivial⟩
    show r'.cnt - _ ≤ 22
    omega

/-- A whole byte is read with nothing buffered (42_block_decoder.md R111, R113; 45_adler32.md R163). -/
theorem Machine.readByte_meets (hb : ∀ a, a < len → byte a = some (b a)) (ht : len ≤ top) {r : Reader} (h : r.Ok b top)
    (h₀ : r.cnt = 0) (hlt : r.ip < len) :
    (readByte byte r).Meets b top fun _ r' => r'.cnt = 0 ∧ r'.ip = r.ip + 1 := by
  obtain ⟨⟨-, hbuf, -⟩, -, -⟩ := h
  have hholds : Reader.Holds b { r with ip := r.ip + 1 } := ⟨by simp [h₀], hbuf, fun i hi => absurd hi (by simp [h₀])⟩
  rw [readByte, hb _ hlt]
  exact ⟨⟨hholds, by simp [h₀], by show r.ip + 1 ≤ top; omega⟩, h₀, rfl⟩

/-! ## The elements -/

theorem decodeZhdr_meets (hb : ∀ a, a < len → byte a = some (b a)) (ht : len ≤ top) {r : Reader} (h : r.Ok b top) (h₀ : r.cnt = 0) :
    (decodeZhdr byte len r).Meets b top fun i r' => r'.cnt = 0 ∧ ∃ cmf flg, i = .zhdr cmf flg := by
  unfold decodeZhdr
  split_ifs with hlen
  · exact ⟨h, by decide, by simp⟩
  · refine (readByte_meets hb ht h h₀ (by omega)).thenDecode (by simp) fun cmf r₁ hr₁ ⟨hc₁, hi₁⟩ => ?_
    refine (readByte_meets hb ht hr₁ hc₁ (by omega)).thenDecode (by simp) fun flg r₂ hr₂ ⟨hc₂, _⟩ => ?_
    exact ⟨hr₂, hc₂, cmf, flg, rfl⟩

theorem decodeBlock_meets (hb : ∀ a, a < len → byte a = some (b a)) (ht : len ≤ top) {r : Reader} (h : r.Ok b top) :
    (decodeBlock byte len r).Meets b top fun i _ => ∃ f t, i = blockOf f t := by
  refine (readBits_meets hb ht (by omega) h).thenDecode (by simp) fun f r₁ hr₁ hf => ?_
  refine (readBits_meets hb ht (by omega) hr₁).thenDecode (by simpa using by omega) fun t r₂ hr₂ _ => ?_
  exact ⟨hr₂, f, t, rfl⟩

/-- Four whole bytes, after byteAlign. -/
theorem fourBytes_meets (hb : ∀ a, a < len → byte a = some (b a)) (ht : len ≤ top) {r : Reader} (h : r.Ok b top)
    (hlen : r.ip + 4 ≤ len) {P : Instr → Prop} {f : Byte → Byte → Byte → Byte → Instr}
    (hf : ∀ b₀ b₁ b₂ b₃, P (f b₀ b₁ b₂ b₃)) :
    ((readByte byte r.byteAlign).thenDecode [] fun b₀ r => (readByte byte r).thenDecode [] fun b₁ r =>
      (readByte byte r).thenDecode [] fun b₂ r => (readByte byte r).thenDecode [] fun b₃ r =>
        .instr (f b₀ b₁ b₂ b₃) r).Meets b top fun i r' => r'.cnt = 0 ∧ P i := by
  have hi₀ : r.byteAlign.ip = r.ip := rfl
  refine (readByte_meets hb ht h.byteAlign rfl (by omega)).thenDecode (by simp) fun b₀ r₁ hr₁ ⟨hc₁, hi₁⟩ => ?_
  refine (readByte_meets hb ht hr₁ hc₁ (by omega)).thenDecode (by simp) fun b₁ r₂ hr₂ ⟨hc₂, hi₂⟩ => ?_
  refine (readByte_meets hb ht hr₂ hc₂ (by omega)).thenDecode (by simp) fun b₂ r₃ hr₃ ⟨hc₃, hi₃⟩ => ?_
  refine (readByte_meets hb ht hr₃ hc₃ (by omega)).thenDecode (by simp) fun b₃ r₄ hr₄ ⟨hc₄, _⟩ => ?_
  exact ⟨hr₄, hc₄, hf b₀ b₁ b₂ b₃⟩

theorem decodeStored_meets (hb : ∀ a, a < len → byte a = some (b a)) (ht : len ≤ top) {r : Reader} (h : r.Ok b top) :
    (decodeStored byte len r).Meets b top fun i r' => r'.cnt = 0 ∧ ∃ n n', i = .lenNlen n n' := by
  unfold decodeStored
  split_ifs with hlen
  · exact ⟨h.byteAlign, by decide, by simp⟩
  · exact fourBytes_meets hb ht h (by omega) fun _ _ _ _ => ⟨_, _, rfl⟩

theorem decodeTrailer_meets (hb : ∀ a, a < len → byte a = some (b a)) (ht : len ≤ top) {r : Reader} (h : r.Ok b top) :
    (decodeTrailer byte len r).Meets b top fun i _ => ∃ w, i = .trailer w := by
  unfold decodeTrailer
  split_ifs with hlen
  · exact ⟨h.byteAlign, by decide, by simp⟩
  · exact (fourBytes_meets hb ht h (by omega) fun _ _ _ _ => ⟨_, rfl⟩).imp fun _ _ hi => hi.2

theorem decodeData_meets (hb : ∀ a, a < len → byte a = some (b a)) (ht : len ≤ top) {r : Reader} (h : r.Ok b top)
    (h₀ : r.cnt = 0) (hlt : r.ip < len) :
    (decodeData byte r).Meets b top fun i r' => r'.cnt = 0 ∧ r'.ip = r.ip + 1 ∧ ∃ v, i = .data v :=
  (readByte_meets hb ht h h₀ hlt).thenDecode (by simp) fun v _ hr₁ ⟨hc₁, hi₁⟩ => ⟨hr₁, hc₁, hi₁, v, rfl⟩

theorem decodeDyn_meets (hb : ∀ a, a < len → byte a = some (b a)) (ht : len ≤ top) {r : Reader} (h : r.Ok b top) :
    (decodeDyn byte len r).Meets b top fun i _ => ∃ x y z, i = .dyn x y z := by
  refine (readBits_meets hb ht (by omega) h).thenDecode (by simp) fun x r₁ hr₁ hx => ?_
  refine (readBits_meets hb ht (by omega) hr₁).thenDecode (by simpa using hx) fun y r₂ hr₂ hy => ?_
  refine (readBits_meets hb ht (by omega) hr₂).thenDecode (by simpa using ⟨hx, hy⟩) fun z r₃ hr₃ _ => ?_
  exact ⟨hr₃, _, _, _, rfl⟩

theorem decodeCll_meets (hb : ∀ a, a < len → byte a = some (b a)) (ht : len ≤ top) {r : Reader} (h : r.Ok b top) :
    (decodeCll byte len r).Meets b top fun i _ => ∃ l, i = .cll l :=
  (readBits_meets hb ht (by omega) h).thenDecode (by simp) fun _ _ hr₁ _ => ⟨hr₁, _, rfl⟩

theorem decodeCl_meets (hb : ∀ a, a < len → byte a = some (b a)) (ht : len ≤ top) (t : Table) {r : Reader} (h : r.Ok b top) :
    (decodeCl byte len t r).Meets b top fun i _ => i.clSymbol.isSome := by
  refine (readCode_meets hb ht t h).thenDecode (by simp) fun sym r₁ hr₁ _ => ?_
  refine (readBits_meets hb ht (clExtraBits_le sym) hr₁).thenDecode (by simp) fun e r₂ hr₂ _ => ?_
  exact ⟨hr₂, clOf_clSymbol sym e⟩

theorem decodeLitLen_meets (hb : ∀ a, a < len → byte a = some (b a)) (ht : len ≤ top) (fixed : Bool) (t : Table) {r : Reader}
    (h : r.Ok b top) : (decodeLitLen byte len fixed t r).Meets b top fun i _ => i.isLitLen := by
  refine (readCode_meets hb ht t h).thenDecode (by simp) fun sym r₁ hr₁ _ => ?_
  refine (readBits_meets hb ht (litLenExtraBits_le sym) hr₁).thenDecode (by simp) fun e r₂ hr₂ _ => ⟨hr₂, ?_⟩
  cases fixed
  · exact dynLitLenOf_isLitLen sym e
  · exact fixedLitLenOf_isLitLen sym e

theorem decodeEmptyDistance_meets {e : ErrorCode} (he : e ≠ .invalidInputType) (fixed : Bool) {r : Reader} (h : r.Ok b top) :
    (decodeEmptyDistance e fixed r).Meets b top fun i _ => i.isDist := by
  unfold decodeEmptyDistance
  split_ifs
  · exact ⟨h, .inr (.inr (.inl rfl))⟩
  · exact ⟨h, .inr (.inr (.inr rfl))⟩
  · exact ⟨h, he, by simp⟩

theorem decodeDist_meets (hb : ∀ a, a < len → byte a = some (b a)) (ht : len ≤ top) (fixed : Bool) (t : Table) {r : Reader}
    (h : r.Ok b top) : (decodeDist byte len fixed t r).Meets b top fun i _ => i.isDist := by
  have hcode := readCode_meets hb ht t h
  unfold decodeDist
  cases hx : readCode byte len t r with
  | ok d r₁ =>
    rw [hx] at hcode
    obtain ⟨hr₁, -⟩ := hcode
    by_cases hd : 30 ≤ d
    · simp only [if_pos hd]
      exact ⟨hr₁, .inr (.inl ⟨_, rfl⟩)⟩
    · simp only [if_neg hd]
      have hle : distanceExtraBits d ≤ 15 := le_trans (Laws.EncodingFits.distanceExtraBits_le d) (by decide)
      refine (readBits_meets hb ht hle hr₁).thenDecode (by simp) fun e r₂ hr₂ _ => ⟨hr₂, ?_⟩
      cases fixed
      · exact .inl rfl
      · exact fixedDistanceOf_isDist e (by omega)
  | raise e r₁ =>
    rw [hx] at hcode
    exact decodeEmptyDistance_meets hcode.2 fixed hcode.1
  | noByte a => rw [hx] at hcode; exact hcode

end Input

end Sys2Proof
end

section
/-! PROOFS. The invariant inside a step (10_state.md R33): what each operation and each element of the engine keeps. -/

namespace Sys2Proof.Machine

/-! ## The invariant inside a step -/

/-- The end of the input as the reader sees it: IN_LEN, or INDEX past it (10_state.md R21). -/
def State.readTop (s : State) : Nat := Nat.max s.inLen.toNat s.index.toNat

/-- What the invariant says of a running decode whatever S is: every operation of the engine keeps it. -/
def State.Decoding (s : State) : Prop :=
  s.ParamsOk ∧ s.MemoryOk ∧ s.reader.Ok s.inByte s.readTop ∧ s.OutputOk ∧ s.outMem.map Prod.fst = List.range s.op.toNat ∧
  (s.hlit.toNat ≤ 288 ∧ s.hdist.toNat ≤ 32) ∧ (s.done = false ∧ s.err = false) ∧ s.errCode.toNat ≤ 0x0E ∧ s.errCode ≠ 0x01

/-- The invariant between two parts of a step: what the part in progress has left to do fits in n parts, and what it needs is there. -/
def State.MidStep (s : State) (n : Nat) : Prop :=
  match s.pend with
  | .none => s.Inv
  | .startStep => 1 ≤ n ∧ s.ParamsOk ∧ s.MemoryOk
  | .storedData k =>
    s.Decoding ∧ s.fsm = .stored ∧ 1 ≤ k ∧ k ≤ n ∧ s.bitCnt = 0 ∧ s.ip.toNat + k ≤ s.inLen.toNat ∧ s.op.toNat + k ≤ s.cap.toNat
  | .clLengths i => s.Decoding ∧ s.fsm = .dynhdr ∧ i < s.hclen.toNat ∧ s.hclen.toNat ≤ i + n ∧ 0 < s.hlit.toNat
  | .distance _ => s.Decoding ∧ s.fsm = .body ∧ 1 ≤ n
  | .trailer => s.Decoding ∧ s.fsm = .finish ∧ 1 ≤ n

/-- A part of a step ends, in the middle of the step or at its end. -/
def EndsMidStep (n : Nat) (x : Host.Outcome State Fault Refusal) : Prop := ∃ t, x = .next t ∧ t.MidStep n

/-- An engine operation goes on with the invariant, or raises an error that can be raised. -/
def Res.Keeps (n : Nat) : Res → Prop
  | .ok t => t.MidStep n
  | .raise e t => t.Decoding ∧ e ≠ .invalidInputType
  | .fault _ => False

/-- Between two steps no part is left (assumption 4). -/
theorem State.Inv.pend_eq {s : State} (h : s.Inv) : s.pend = .none := by
  obtain ⟨-, -, -, -, -, -, -, hp⟩ := h
  exact hp

theorem State.Decoding.reader_ok {s : State} (h : s.Decoding) : s.reader.Ok s.inByte s.readTop := by
  obtain ⟨-, -, hreader, -⟩ := h
  exact hreader

theorem State.Decoding.output_ok {s : State} (h : s.Decoding) : s.OutputOk := by
  obtain ⟨-, -, -, hout, -⟩ := h
  exact hout

theorem State.Decoding.counts_le {s : State} (h : s.Decoding) : s.hlit.toNat ≤ 288 ∧ s.hdist.toNat ≤ 32 := by
  obtain ⟨-, -, -, -, -, hhead, -⟩ := h
  exact hhead

theorem State.ParamsOk.outMemSize_le {s : State} (h : s.ParamsOk) : s.par.outMemSize ≤ 2 ^ 31 := by
  obtain ⟨⟨-, -, -, hsize, -⟩, -⟩ := h
  exact hsize

theorem State.Inv.midStep {s : State} (h : s.Inv) (n : Nat) : s.MidStep n := by
  simpa only [State.MidStep, h.pend_eq] using h

/-- With no part left to allow, the step is at its end. -/
theorem State.MidStep.inv {s : State} (h : s.MidStep 0) : s.Inv := by
  unfold State.MidStep at h
  split at h
  · exact h
  all_goals omega

/-- While a decode runs neither DONE nor ERR is set (10_state.md R12). -/
theorem State.FlagsOk.of_busy {s : State} (h : s.FlagsOk) (hb : s.busy = true) : s.done = false ∧ s.err = false := by
  obtain ⟨hdone, herr, -, -⟩ := h
  constructor
  · by_contra hd
    simp [State.busy, hdone (by simpa using hd), Fsm.running] at hb
  · by_contra he
    simp [State.busy, herr (by simpa using he), Fsm.running] at hb

theorem State.Inv.decoding {s : State} (h : s.Inv) (hb : s.busy = true) : s.Decoding := by
  obtain ⟨hpar, hmem, ⟨hcnt, -, -, hrun⟩, hout, hlist, ⟨hlit, hdist, -⟩, hflags, -⟩ := h
  obtain ⟨hip, hholds⟩ := hrun hb
  have hclear := hflags.of_busy hb
  obtain ⟨-, -, hcode⟩ := hflags
  exact ⟨hpar, hmem, ⟨hholds, hcnt, hip⟩, hout, hlist hb, ⟨hlit, hdist⟩, hclear, hcode⟩

/-- A running decode between two steps meets the invariant, given what R111 and R115 say of the header states. -/
theorem State.Decoding.inv {s : State} (h : s.Decoding) (hp : s.pend = .none) (hz : s.fsm = .zhdr → s.bitCnt = 0)
    (hc : s.fsm = .clens → s.clIdx.toNat < s.hlit.toNat + s.hdist.toNat) : s.Inv := by
  obtain ⟨hpar, hmem, ⟨hholds, hcnt, hip⟩, hout, hlist, ⟨hlit, hdist⟩, ⟨hdone, herr⟩, hcode⟩ := h
  have hflags : s.FlagsOk := ⟨by simp [hdone], by simp [herr], hcode⟩
  exact ⟨hpar, hmem, ⟨hcnt, hholds.2.1, hz, fun _ => ⟨hip, hholds⟩⟩, hout, fun _ => hlist, ⟨hlit, hdist, hc⟩, hflags, hp⟩

/-! ## Taking an error -/

/-- Only the reserved error has the code that is never raised (60_exceptions.md R180, R181). -/
theorem ErrorCode.code_legal {e : ErrorCode} (h : e ≠ .invalidInputType) : e.code.toNat ≤ 0x0E ∧ e.code ≠ 0x01 := by
  cases e
  case invalidInputType => exact absurd rfl h
  all_goals decide

/-- Error entry ends a decode with the invariant (60_exceptions.md R182). -/
theorem State.Decoding.enterError {s : State} (h : s.Decoding) {e : ErrorCode} (he : e ≠ .invalidInputType) :
    (s.enterError e).Inv := by
  obtain ⟨hpar, hmem, ⟨hholds, hcnt, -⟩, hout, -, ⟨hlit, hdist⟩, ⟨hdone, -⟩, -⟩ := h
  have hflags : (s.enterError e).FlagsOk := ⟨fun hd => absurd (hdone.symm.trans hd) (by decide), fun _ => rfl, ErrorCode.code_legal he⟩
  exact ⟨hpar, hmem, ⟨hcnt, hholds.2.1, nofun, nofun⟩, hout, nofun, ⟨hlit, hdist, nofun⟩, hflags, rfl⟩

theorem Res.Keeps.finish {n : Nat} {x : Res} (h : x.Keeps n) : EndsMidStep n x.finish :=
  match x, h with
  | .ok t, h => ⟨t, rfl, h⟩
  | .raise _ _, h => ⟨_, rfl, (h.1.enterError h.2).midStep n⟩

/-! ## The reader's registers -/

theorem State.Decoding.withReader {s : State} (h : s.Decoding) {r : Reader} (hr : r.Ok s.inByte s.readTop) :
    (s.withReader r).Decoding := by
  obtain ⟨hpar, hmem, -, hrest⟩ := h
  obtain ⟨⟨-, hbuf, -⟩, hcnt, hip⟩ := id hr
  have htop : s.readTop < 2 ^ 32 := Nat.max_lt.2 ⟨s.inLen.isLt, s.index.isLt⟩
  have hbuf32 : r.buf < 2 ^ 32 := lt_of_lt_of_le hbuf (Nat.pow_le_pow_right (by decide) (by omega))
  have hreader := s.reader_withReader (lt_of_le_of_lt hip htop) (by omega) hbuf32
  exact ⟨hpar, hmem, hreader.symm ▸ hr, hrest⟩

theorem State.Decoding.readIn {s : State} (h : s.Decoding) : ∀ a, a < s.inLen.toNat → s.readIn a = some (s.inByte a) := by
  obtain ⟨⟨-, hlen⟩, -⟩ := h
  exact fun a ha => s.readIn_of_lt (lt_of_lt_of_le ha hlen)

/-- The fields a header kept before a read of it raised are in range (42_block_decoder.md R112, R114). -/
theorem State.Decoding.keepRead {s : State} (h : s.Decoding) (c : Ctx) {got : List Nat} (hgot : ∀ v ∈ got, v < 32) :
    (s.keepRead c got).Decoding := by
  obtain ⟨hpar, hmem, hreader, hout, hlist, ⟨hlit, hdist⟩, hflags⟩ := h
  unfold State.keepRead
  split
  · exact ⟨hpar, hmem, hreader, hout, hlist, ⟨hlit, hdist⟩, hflags⟩
  case h_2 a =>
    have ha : a < 32 := hgot a (by simp)
    exact ⟨hpar, hmem, hreader, hout, hlist, ⟨by simp; omega, hdist⟩, hflags⟩
  case h_3 a b =>
    have ha : a < 32 := hgot a (by simp)
    have hb : b < 32 := hgot b (by simp)
    exact ⟨hpar, hmem, hreader, hout, hlist, ⟨by simp; omega, by simp; omega⟩, hflags⟩
  · exact ⟨hpar, hmem, hreader, hout, hlist, ⟨hlit, hdist⟩, hflags⟩

/-! ## What the engine's operations keep -/

theorem State.Decoding.raise {s : State} (h : s.Decoding) {e : ErrorCode} (he : e ≠ .invalidInputType) (n : Nat) :
    (Res.raise e s).Keeps n := ⟨h, he⟩

/-- The engine goes to another state of a running decode. -/
theorem State.Decoding.goTo {s : State} (h : s.Decoding) {f : Fsm} (hz : f ≠ .zhdr) (hc : f ≠ .clens) (n : Nat) :
    (s.goTo f).MidStep n :=
  State.Inv.midStep (State.Decoding.inv (s := s.goTo f) h rfl (fun hf => absurd hf hz) fun hf => absurd hf hc) n

theorem State.Decoding.blockEnd {s : State} (h : s.Decoding) (n : Nat) : s.blockEnd.MidStep n := by
  unfold State.blockEnd
  split
  · exact h.goTo (by decide) (by decide) n
  · exact h.goTo (by decide) (by decide) n

/-- `grow` makes room for the write within OUT, or raises with nothing changed (44_output_growth.md R150). -/
theorem State.Decoding.grow {s : State} (h : s.Decoding) (required : Nat) (ratio : Option Nat) :
    s.grow required ratio = .raise .outputOverflow s ∨
    ∃ c : Word, required ≤ c.toNat ∧ s.grow required ratio = .ok { s with cap := c } ∧ State.Decoding { s with cap := c } := by
  obtain ⟨hpar, hmem, hreader, ⟨hop, hcap⟩, hrest⟩ := h
  rcases s.grow_cases required ratio hcap hpar.outMemSize_le with ⟨hfit, e⟩ | ⟨-, e⟩ | ⟨-, -, c, -, hlt, hreq, hle, e⟩
  · exact .inr ⟨s.cap, hfit, e, hpar, hmem, hreader, ⟨hop, hcap⟩, hrest⟩
  · exact .inl e
  · exact .inr ⟨c, hreq, e, hpar, hmem, hreader, ⟨by show s.op.toNat ≤ c.toNat; omega, hle⟩, hrest⟩

/-- A byte written below CAP is listed at OP (20_memory.md R42). -/
theorem State.Decoding.emit {s : State} (h : s.Decoding) (hlt : s.op.toNat < s.cap.toNat) (b : Byte) :
    ∃ m : Mem, s.emit b = .ok { s with outMem := m, op := s.op + 1 } ∧ (s.op + 1).toNat = s.op.toNat + 1 ∧
      State.Decoding { s with outMem := m, op := s.op + 1 } := by
  obtain ⟨hpar, ⟨hin, hwf⟩, hreader, ⟨-, hcap⟩, hlist, hrest⟩ := h
  have hop : (s.op + 1).toNat = s.op.toNat + 1 := by
    have := s.cap.isLt
    rw [BitVec.toNat_add]
    exact Nat.mod_eq_of_lt (by simpa using by omega)
  refine ⟨_, (s.emit_eq b).trans (if_pos (by omega)), hop, hpar, ⟨hin, Mem.wf_put _ _ _ hwf⟩, hreader, ⟨?_, hcap⟩, ?_, hrest⟩
  · show (s.op + 1).toNat ≤ s.cap.toNat
    omega
  · show List.map _ _ = List.range (s.op + 1).toNat
    rw [hop]
    exact Mem.map_fst_put_range hlist b

/-- A forward copy with room for it ends (43_lz77_copy.md R144). -/
theorem State.Decoding.copyForward (dist : Nat) {n : Nat} {s : State} (h : s.Decoding) (hn : s.op.toNat + n ≤ s.cap.toNat) :
    ∃ t, copyForward dist n s = .ok t ∧ t.fsm = s.fsm ∧ t.Decoding := by
  induction n generalizing s with
  | zero => exact ⟨s, rfl, rfl, h⟩
  | succ n ih =>
    obtain ⟨-, hcap⟩ := h.output_ok
    obtain ⟨m, e, hop, hs⟩ := h.emit (by omega) (s.outByte (s.op.toNat - dist))
    rw [Machine.copyForward, if_pos (by omega), e]
    exact ih hs (by show (s.op + 1).toNat + n ≤ s.cap.toNat; omega)

/-! ## What the elements keep -/

theorem zlibHeader_keeps {s : State} (h : s.Decoding) (cmf flg : BitVec 8) (n : Nat) : (zlibHeader cmf flg s).Keeps n := by
  unfold zlibHeader
  split_ifs
  · exact h.raise (by decide) n
  · exact h.raise (by decide) n
  · exact h.raise (by decide) n
  · exact h.goTo (by decide) (by decide) n

theorem exec_blockOf_midStep {s : State} (h : s.Decoding) (f t n : Nat) : EndsMidStep n (exec (blockOf f t) s) := by
  unfold blockOf
  split_ifs
  · exact ⟨_, rfl, State.Decoding.goTo (s := s.setBlock _ 0) h (by decide) (by decide) n⟩
  · exact ⟨_, rfl, State.Decoding.goTo (s := (s.setBlock _ 1).selectFixed) h (by decide) (by decide) n⟩
  · exact ⟨_, rfl, State.Decoding.goTo (s := s.setBlock _ 2) h (by decide) (by decide) n⟩
  · exact Res.Keeps.finish (State.Decoding.raise (s := s.setBlock _ 3) h (by decide) n)

theorem storedHeader_keeps {s : State} (h : s.Decoding) (hf : s.fsm = .stored) (hcnt : s.bitCnt = 0) (len nlen : BitVec 16)
    {n : Nat} (hn : 65535 ≤ n) : (storedHeader len nlen s).Keeps n := by
  unfold storedHeader
  split_ifs with h₁ h₂
  · exact h.raise (by decide) n
  · exact h.raise (by decide) n
  · rcases h.grow (s.op.toNat + len.toNat) (some storedGrowRatio) with e | ⟨c, hc, e, hs⟩
    · rw [e]
      exact h.raise (by decide) n
    · rw [e, Res.andThen, State.beginData]
      split_ifs with h₀
      · exact State.Decoding.blockEnd hs n
      · have hlen := len.isLt
        exact ⟨hs, hf, by omega, by omega, hcnt, by show s.ip.toNat + _ ≤ s.inLen.toNat; omega, hc⟩

/-- A data byte; IP is past it already (42_block_decoder.md R113). -/
theorem storedByte_keeps {s : State} (h : s.Decoding) {k n : Nat} (hp : s.pend = .storedData k) (hf : s.fsm = .stored)
    (hcnt : s.bitCnt = 0) (hk : 1 ≤ k) (hn : k ≤ n + 1) (hip : s.ip.toNat + k ≤ s.inLen.toNat + 1)
    (hop : s.op.toNat + k ≤ s.cap.toNat) (b : Byte) : (storedByte b s).Keeps n := by
  obtain ⟨m, e, hop', hs⟩ := h.emit (by omega) b
  have hleft : s.pend.dataLeft = k := by rw [hp]; rfl
  rw [storedByte, e, Res.andThen, State.nextData]
  simp only [hleft]
  split_ifs
  · exact hs.blockEnd n
  · refine ⟨hs, hf, by omega, by omega, hcnt, ?_, ?_⟩
    · show s.ip.toNat + _ ≤ s.inLen.toNat
      omega
    · show (s.op + 1).toNat + _ ≤ s.cap.toNat
      omega

/-- The counts of a dynamic header as numbers (30_encoding.md R66). -/
theorem State.setCounts_toNat (s : State) (x y : BitVec 5) (z : BitVec 4) :
    (s.setCounts x y z).hlit.toNat = x.toNat + 257 ∧ (s.setCounts x y z).hdist.toNat = y.toNat + 1 ∧
    (s.setCounts x y z).hclen.toNat = z.toNat + 4 := by
  simp only [State.setCounts_hlit, State.setCounts_hdist, State.setCounts_hclen, BitVec.toNat_ofNat]
  omega

theorem State.Decoding.setCounts {s : State} (h : s.Decoding) (x y : BitVec 5) (z : BitVec 4) : (s.setCounts x y z).Decoding := by
  obtain ⟨hpar, hmem, hreader, hout, hlist, -, hflags⟩ := h
  obtain ⟨hlit, hdist, -⟩ := s.setCounts_toNat x y z
  exact ⟨hpar, hmem, hreader, hout, hlist, by omega, hflags⟩

theorem exec_dyn_midStep {s : State} (h : s.Decoding) (hf : s.fsm = .dynhdr) (x y : BitVec 5) (z : BitVec 4)
    {n : Nat} (hn : 19 ≤ n) : EndsMidStep n (exec (.dyn x y z) s) := by
  obtain ⟨hlit, -, hclen⟩ := s.setCounts_toNat x y z
  refine ⟨(s.setCounts x y z).setPend (.clLengths 0), rfl, h.setCounts x y z, hf, ?_, ?_, ?_⟩
  · show 0 < (s.setCounts x y z).hclen.toNat
    omega
  · show (s.setCounts x y z).hclen.toNat ≤ 0 + n
    omega
  · show 0 < (s.setCounts x y z).hlit.toNat
    omega

/-- The end of a dynamic header writes tables and lengths, of which the invariant says nothing (42_block_decoder.md R114). -/
theorem State.Decoding.endDynHeader {s : State} (h : s.Decoding) (sent : Nat) : (s.endDynHeader sent).Decoding :=
  have key (v : Vector (BitVec 3) 19) (t : Table) (l : Vector (BitVec 4) 320) :
      State.Decoding { s with clLen := v, clt := t, lens := l, clIdx := 0, prev := 0 } := h
  key _ _ _

theorem exec_cll_midStep {s : State} (h : s.Decoding) {i n : Nat} (hp : s.pend = .clLengths i) (hf : s.fsm = .dynhdr)
    (hn : s.hclen.toNat ≤ i + (n + 1)) (hlit : 0 < s.hlit.toNat) (l : BitVec 3) : EndsMidStep n (exec (.cll l) s) := by
  have hi : s.pend.clNumber = i := by rw [hp]; rfl
  refine ⟨(s.setClLen i l).nextCll i, by rw [← hi]; rfl, ?_⟩
  unfold State.nextCll
  split_ifs with hlt
  · exact ⟨h, hf, hlt, by show s.hclen.toNat ≤ _; omega, hlit⟩
  · have hs : (s.setClLen i l).Decoding := h
    have ht : (((s.setClLen i l).endDynHeader (i + 1)).goTo .clens).Decoding := hs.endDynHeader (i + 1)
    exact (ht.inv rfl (by simp) fun _ => by simp; omega).midStep n

/-- A CLENS step that writes k lengths within HLIT + HDIST stays in CLENS or goes to DYNBUILD (42_block_decoder.md R115). -/
theorem putLens_midStep {s : State} (h : s.Decoding) (hf : s.fsm = .clens) (hp : s.pend = .none) {k : Nat}
    (hk : s.clIdx.toNat + k ≤ s.hlit.toNat + s.hdist.toNat) (v prev : BitVec 4) (n : Nat) :
    (s.putLens k v prev).endClStep.MidStep n := by
  obtain ⟨hlit, hdist⟩ := h.counts_le
  have hidx : (s.putLens k v prev).clIdx.toNat = s.clIdx.toNat + k := by
    rw [State.putLens_clIdx, BitVec.toNat_ofNat]
    exact Nat.mod_eq_of_lt (by omega)
  unfold State.endClStep
  split_ifs with he
  · exact State.Decoding.goTo (s := s.putLens k v prev) h (by decide) (by decide) n
  · refine State.Inv.midStep (State.Decoding.inv (s := s.putLens k v prev) h hp (fun hz => absurd (hf.symm.trans hz) (by decide)) ?_) n
    intro _
    rw [State.putLens_hlit, State.putLens_hdist] at *
    omega

theorem exec_clSymbol_midStep {s : State} (h : s.Decoding) (hf : s.fsm = .clens) (hp : s.pend = .none)
    (hidx : s.clIdx.toNat < s.hlit.toNat + s.hdist.toNat) {i : Instr} (hi : i.clSymbol.isSome) (n : Nat) :
    EndsMidStep n (exec i s) := by
  obtain ⟨p, hi⟩ := Option.isSome_iff_exists.1 hi
  rcases exec_of_clSymbol hi s with ⟨v, e⟩ | ⟨k, v, e⟩
  · exact ⟨_, e, putLens_midStep h hf hp hidx v v n⟩
  · rw [e]
    refine Res.Keeps.finish ?_
    unfold repeatLength
    split_ifs with hk
    · exact h.raise (by decide) n
    · exact putLens_midStep h hf hp (by omega) v v n

/-- In BODY, between two steps (42_block_decoder.md R122). -/
theorem State.Decoding.body {s : State} (h : s.Decoding) (hf : s.fsm = .body) (hp : s.pend = .none) (n : Nat) : s.MidStep n :=
  (h.inv hp (fun hz => absurd (hf.symm.trans hz) (by decide)) fun hc => absurd (hf.symm.trans hc) (by decide)).midStep n

theorem literalByte_keeps {s : State} (h : s.Decoding) (hf : s.fsm = .body) (hp : s.pend = .none) (v : BitVec 8) (n : Nat) :
    (literalByte v s).Keeps n := by
  rw [literalByte, s.growForLiteral_eq]
  rcases h.grow (s.op.toNat + 1) none with e | ⟨c, hc, e, hs⟩
  · rw [e]
    exact h.raise (by decide) n
  · obtain ⟨m, e', -, ht⟩ := hs.emit hc v
    rw [e, Res.andThen, e']
    exact ht.body hf hp n

theorem endOfBlock_midStep {s : State} (h : s.Decoding) (n : Nat) : (endOfBlock s).MidStep n :=
  (h.withReader h.reader_ok.eobRewind).blockEnd n

theorem exec_litLen_midStep {s : State} (h : s.Decoding) (hf : s.fsm = .body) (hp : s.pend = .none) {i : Instr} (hi : i.isLitLen)
    {n : Nat} (hn : 1 ≤ n) : EndsMidStep n (exec i s) := by
  rcases hi with hi | rfl | rfl | hi
  · obtain ⟨v, hi⟩ := Option.isSome_iff_exists.1 hi
    rw [exec_of_literalOf hi]
    exact (literalByte_keeps h hf hp v n).finish
  · exact ⟨_, rfl, endOfBlock_midStep h n⟩
  · exact ⟨_, rfl, endOfBlock_midStep h n⟩
  · obtain ⟨k, hi⟩ := Option.isSome_iff_exists.1 hi
    exact ⟨_, exec_of_lengthOf hi s, h, hf, hn⟩

theorem copyMatch_keeps {s : State} (h : s.Decoding) (hf : s.fsm = .body) (dist n : Nat) : (copyMatch dist s).Keeps n := by
  unfold copyMatch
  split_ifs
  · exact h.raise (by decide) n
  · rcases h.grow (s.op.toNat + s.pend.length) none with e | ⟨c, hc, e, hs⟩
    · rw [e]
      exact h.raise (by decide) n
    · obtain ⟨t, e', hft, ht⟩ := hs.copyForward dist hc
      rw [e, Res.andThen, e', Res.andThen]
      exact State.Decoding.body (s := t.setPend .none) ht (hft.trans hf) rfl n

theorem exec_dist_midStep {s : State} (h : s.Decoding) (hf : s.fsm = .body) {i : Instr} (hi : i.isDist) (n : Nat) :
    EndsMidStep n (exec i s) := by
  rcases hi with hi | ⟨d, rfl⟩ | rfl | rfl
  · obtain ⟨d, hi⟩ := Option.isSome_iff_exists.1 hi
    rw [exec_of_distanceOf hi]
    exact (copyMatch_keeps h hf d n).finish
  all_goals exact Res.Keeps.finish (h.raise (by decide) n)

theorem exec_dynbuild_midStep {s : State} (h : s.Decoding) (n : Nat) : EndsMidStep n (exec .dynbuild s) :=
  ⟨_, rfl, State.Decoding.goTo (s := s.buildTables) h (by decide) (by decide) n⟩

/-- A completed decode meets the invariant: CAP comes down to OP (44_output_growth.md R154). -/
theorem State.Decoding.complete {s : State} (h : s.Decoding) (n : Nat) : s.complete.MidStep n := by
  obtain ⟨hpar, hmem, ⟨hholds, hcnt, -⟩, ⟨hop, hcap⟩, -, ⟨hlit, hdist⟩, ⟨-, herr⟩, hcode⟩ := h
  have hflags : s.complete.FlagsOk := ⟨fun _ => rfl, fun he => absurd (herr.symm.trans he) (by decide), hcode⟩
  have hinv : s.complete.Inv := ⟨hpar, hmem, ⟨hcnt, hholds.2.1, nofun, nofun⟩, ⟨le_refl s.op.toNat, le_trans hop hcap⟩, nofun,
    ⟨hlit, hdist, nofun⟩, hflags, rfl⟩
  exact hinv.midStep n

theorem finishDecode_keeps {s : State} (h : s.Decoding) (hf : s.fsm = .finish) {n : Nat} (hn : 1 ≤ n) : (finishDecode s).Keeps n := by
  obtain ⟨hop, hcap⟩ := h.output_ok
  rw [finishDecode, if_pos (le_trans hop hcap)]
  split_ifs
  · exact ⟨h, hf, hn⟩
  · exact State.Decoding.complete (s := s.loadAdler) h n

theorem checkTrailer_keeps {s : State} (h : s.Decoding) (w : Word) (n : Nat) : (checkTrailer w s).Keeps n := by
  unfold checkTrailer
  split_ifs
  · exact State.Decoding.raise (s := s.loadTrailer w) h (by decide) n
  · exact State.Decoding.complete (s := s.loadTrailer w) h n

/-- START begins a decode with the invariant (42_block_decoder.md R110). -/
theorem State.startInit_inv {s : State} (hpar : s.ParamsOk) (hin : s.inMem.wf) : s.startInit.Inv := by
  have hcap : s.startInit.cap.toNat ≤ s.par.outMemSize := by
    rw [State.startInit_cap, BitVec.toNat_ofNat]
    exact le_trans (Nat.mod_le _ _) (Nat.min_le_right _ _)
  have hreader : s.startInit.reader.Ok s.startInit.inByte s.startInit.readTop :=
    ⟨⟨Nat.zero_le _, Nat.one_pos, nofun⟩, Nat.zero_le _, Nat.le_max_right _ _⟩
  have hdec : s.startInit.Decoding := ⟨hpar, ⟨hin, List.Pairwise.nil⟩, hreader, ⟨Nat.zero_le _, hcap⟩, rfl,
    ⟨Nat.zero_le _, Nat.zero_le _⟩, ⟨rfl, rfl⟩, Nat.zero_le _, by show (0 : BitVec 8) ≠ 1; decide⟩
  refine hdec.inv rfl (fun _ => rfl) fun hc => ?_
  rw [State.startInit_fsm] at hc
  split at hc <;> cases hc

end Sys2Proof.Machine
end

section
/-! PROOFS. The state (10_state.md): every step of either agent keeps the invariant, reset has it, and IRQ follows the flags. -/

namespace Sys2Proof.Machine

/-! ## The parts of an engine step -/

/-- A part that reads an element: what the instructions of its place keep, the part keeps, and an error the read raises is taken. -/
theorem runPart_midStep {s : State} {c : Ctx} {n : Nat} {P : Instr → Reader → Prop} (h : s.Decoding) (hp : s.place = some c)
    (hd : (decode c s.readIn s.inLen.toNat s.reader).Meets s.inByte s.readTop P)
    (hi : ∀ i r, (s.withReader r).Decoding → P i r → EndsMidStep n (exec i (s.withReader r))) : EndsMidStep n (runPart exec s) := by
  cases hx : decode c s.readIn s.inLen.toNat s.reader with
  | instr i r =>
    rw [hx] at hd
    rw [runPart_instr exec hp hx]
    exact hi i r (h.withReader hd.1) hd.2
  | raise e r got =>
    rw [hx] at hd
    obtain ⟨hr, he, hgot⟩ := hd
    exact ⟨_, runPart_raise exec hp hx, ((h.withReader hr).keepRead c hgot |>.enterError he).midStep n⟩
  | noByte a => rw [hx] at hd; exact hd.elim

/-- The parts of a step after the first (assumption 4). -/
theorem State.MidStep.runPart {s : State} {n : Nat} (h : s.MidStep (n + 1)) (hp : s.pend ≠ .none) :
    EndsMidStep n (runPart exec s) := by
  have ht : s.inLen.toNat ≤ s.readTop := Nat.le_max_left _ _
  unfold State.MidStep at h
  cases hp' : s.pend <;> simp only [hp'] at h
  case none => exact absurd hp' hp
  case startStep =>
    obtain ⟨-, hpar, hin, -⟩ := h
    rw [runPart_internal exec (i := .startStep) (by simp [State.place, hp']) (by simp [State.internalStep, hp'])]
    exact ⟨_, rfl, (State.startInit_inv hpar hin).midStep n⟩
  case storedData k =>
    obtain ⟨hs, hf, hk, hn, hcnt, hip, hop⟩ := h
    have hlen := s.inLen.isLt
    refine runPart_midStep hs (c := .data) (by simp [State.place, hp'])
      (decodeData_meets hs.readIn ht hs.reader_ok (by simp [State.reader, hcnt]) (show s.ip.toNat < _ by omega)) ?_
    rintro i r hs' ⟨hc, hi, v, rfl⟩
    have hip' : r.ip = s.ip.toNat + 1 := hi
    refine (storedByte_keeps hs' hp' hf (by simp [hc]) hk hn ?_ hop v).finish
    simp only [State.withReader_ip, State.withReader_inLen, BitVec.toNat_ofNat]
    omega
  case clLengths i =>
    obtain ⟨hs, hf, -, hn, hlit⟩ := h
    refine runPart_midStep hs (c := .cll) (by simp [State.place, hp']) (decodeCll_meets hs.readIn ht hs.reader_ok) ?_
    rintro i r hs' ⟨l, rfl⟩
    exact exec_cll_midStep hs' hp' hf (by simpa [Nat.add_comm n] using hn) hlit l
  case distance k =>
    obtain ⟨hs, hf, -⟩ := h
    refine runPart_midStep hs (c := .dist s.fixedBody s.distt) (by simp [State.place, hp'])
      (decodeDist_meets hs.readIn ht _ _ hs.reader_ok) fun i r hs' hi => ?_
    exact exec_dist_midStep hs' hf hi n
  case trailer =>
    obtain ⟨hs, hf, -⟩ := h
    refine runPart_midStep hs (c := .trailer) (by simp [State.place, hp']) (decodeTrailer_meets hs.readIn ht hs.reader_ok) ?_
    rintro i r hs' ⟨w, rfl⟩
    exact (checkTrailer_keeps hs' w n).finish

/-- The first part of an engine step (10_state.md R20). -/
theorem State.Inv.runPart {s : State} (h : s.Inv) (hb : s.busy = true) {n : Nat} (hn : 65535 ≤ n) :
    EndsMidStep n (runPart exec s) := by
  have hs := h.decoding hb
  have ht : s.inLen.toNat ≤ s.readTop := Nat.le_max_left _ _
  obtain ⟨-, -, ⟨-, -, hz, -⟩, -, -, ⟨-, -, hidx⟩, -, hp⟩ := h
  cases hf : s.fsm with
  | idle | done | error => simp [State.busy, hf, Fsm.running] at hb
  | zhdr =>
    refine runPart_midStep hs (c := .zhdr) (by simp [State.place, hp, hf])
      (decodeZhdr_meets hs.readIn ht hs.reader_ok (by simp [State.reader, hz hf])) ?_
    rintro i r hs' ⟨-, cmf, flg, rfl⟩
    exact (zlibHeader_keeps hs' cmf flg n).finish
  | bhdr =>
    refine runPart_midStep hs (c := .block) (by simp [State.place, hp, hf]) (decodeBlock_meets hs.readIn ht hs.reader_ok) ?_
    rintro i r hs' ⟨f, t, rfl⟩
    exact exec_blockOf_midStep hs' f t n
  | stored =>
    refine runPart_midStep hs (c := .stored) (by simp [State.place, hp, hf]) (decodeStored_meets hs.readIn ht hs.reader_ok) ?_
    rintro i r hs' ⟨hc, len, nlen, rfl⟩
    exact (storedHeader_keeps hs' hf (by simp [hc]) len nlen hn).finish
  | dynhdr =>
    refine runPart_midStep hs (c := .dyn) (by simp [State.place, hp, hf]) (decodeDyn_meets hs.readIn ht hs.reader_ok) ?_
    rintro i r hs' ⟨x, y, z, rfl⟩
    exact exec_dyn_midStep hs' hf x y z (by omega)
  | clens =>
    exact runPart_midStep hs (c := .cl s.clt) (by simp [State.place, hp, hf]) (decodeCl_meets hs.readIn ht _ hs.reader_ok)
      fun i r hs' hi => exec_clSymbol_midStep hs' hf hp (hidx hf) hi n
  | body =>
    exact runPart_midStep hs (c := .litLen s.fixedBody s.litt) (by simp [State.place, hp, hf])
      (decodeLitLen_meets hs.readIn ht _ _ hs.reader_ok) fun i r hs' hi => exec_litLen_midStep hs' hf hp hi (by omega)
  | dynbuild =>
    rw [runPart_internal exec (i := .dynbuild) (by simp [State.place, hp, hf]) (by simp [State.internalStep, hp, hf])]
    exact exec_dynbuild_midStep hs n
  | finish =>
    rw [runPart_internal exec (i := .finish) (by simp [State.place, hp, hf]) (by simp [State.internalStep, hp, hf])]
    exact (finishDecode_keeps hs hf (by omega)).finish

/-- The parts left are run, and the step ends with the invariant. -/
theorem State.MidStep.runParts {n : Nat} {s : State} (h : s.MidStep n) : ∃ t, runParts exec n s = .next t ∧ t.Inv := by
  induction n generalizing s with
  | zero => exact ⟨s, rfl, h.inv⟩
  | succ n ih =>
    by_cases hp : s.pend = .none
    · exact ⟨s, runParts_done hp _, by simpa only [State.MidStep, hp] using h⟩
    · obtain ⟨u, e, hu⟩ := h.runPart hp
      rw [runParts_succ exec hp, e]
      exact ih hu

theorem thenParts_inv {s : State} (h : s.MidStep maxParts) : ∃ t, thenParts exec (.next s) = .next t ∧ t.Inv := h.runParts

/-- A running engine takes its step, to a state that meets the invariant again. -/
theorem State.Inv.engineStep {s : State} (h : s.Inv) (hb : s.busy = true) : ∃ t, engineStep exec s = .next t ∧ t.Inv := by
  have ha : s.advance.Inv := h
  obtain ⟨u, e, hu⟩ := ha.runPart hb (n := maxParts) (by decide)
  rw [Machine.engineStep, e]
  exact thenParts_inv hu

/-- A stopped engine has no step (42_block_decoder.md R121). -/
theorem engineStep_of_stopped {s : State} (hb : s.busy = false) (hp : s.pend = .none) : engineStep exec s = .fault .quiescent := by
  have hf := s.busy_eq_false.1 hb
  have hplace : s.place = none := by rcases hf with hf | hf | hf <;> simp [State.place, hp, hf]
  have hinternal : s.internalStep = none := by rcases hf with hf | hf | hf <;> simp [State.internalStep, hp, hf]
  simp only [Machine.engineStep, Machine.runPart, State.fetch, State.advance_place, hplace, State.advance_internalStep, hinternal,
    Res.finish, thenParts]

/-! ## The host's moves -/

/-- What a host access decodes to: a register write, a register read, or an access to a memory window (20_memory.md R49). -/
theorem decodeBus_cases {p : Params} {b : BusAccess} {i : Instr} (h : decodeBus p b = some i) :
    (∃ off v, i = decodeRegWrite off v) ∨ (∃ off, i = .readReg off) ∨ (∃ a, i = .inAccess a) ∨ ∃ a, i = .outAccess a := by
  unfold decodeBus at h
  split_ifs at h
  · unfold decodeReg at h
    split_ifs at h
    split at h <;> cases h
    · exact .inl ⟨_, _, rfl⟩
    · exact .inr (.inl ⟨_, rfl⟩)
  · obtain ⟨a, -, rfl⟩ := Option.map_eq_some_iff.1 h
    exact .inr (.inr (.inl ⟨a, rfl⟩))
  · obtain ⟨a, -, rfl⟩ := Option.map_eq_some_iff.1 h
    exact .inr (.inr (.inr ⟨a, rfl⟩))

theorem State.Inv.writeOptions {s : State} (h : s.Inv) (v : Word) : (s.writeOptions v).Inv := by
  unfold State.writeOptions
  split
  · exact h
  · exact h

/-- STATUS writes only clear flags (46_host_commands.md R173). -/
theorem State.Inv.clearStatus {s : State} (h : s.Inv) (v : Word) : (s.clearStatus v).Inv := by
  obtain ⟨hpar, hmem, hreader, hout, hlist, hhead, ⟨hdone, herr, hcode⟩, hp⟩ := h
  have hflags : (s.clearStatus v).FlagsOk :=
    ⟨fun hd => hdone (Bool.and_eq_true_iff.1 hd).1, fun he => herr (Bool.and_eq_true_iff.1 he).1, hcode⟩
  exact ⟨hpar, hmem, hreader, hout, hlist, hhead, hflags, hp⟩

/-- While the engine is stopped the invariant says nothing of INDEX, and of IN_LEN that it is legal (10_state.md R14). -/
theorem State.Inv.setParams {s : State} (h : s.Inv) (hb : s.busy = false) (index inLen : Word)
    (hlen : inLen.toNat ≤ s.par.inMemSize) : State.Inv { s with index := index, inLen := inLen } := by
  obtain ⟨⟨hpar, -⟩, hmem, ⟨hcnt, hbuf, hz, -⟩, hrest⟩ := h
  exact ⟨⟨hpar, hlen⟩, hmem, ⟨hcnt, hbuf, hz, fun hb' => absurd (hb.symm.trans hb') (by decide)⟩, hrest⟩

/-- While the engine is stopped the invariant asks of the memories their canonical form alone. -/
theorem State.Inv.setMemories {s : State} (h : s.Inv) (hb : s.busy = false) {m o : Mem} (hm : m.wf) (ho : o.wf) :
    State.Inv { s with inMem := m, outMem := o } := by
  obtain ⟨hpar, -, ⟨hcnt, hbuf, hz, -⟩, hout, -, hrest⟩ := h
  have hstopped : s.busy = true → False := fun hb' => absurd (hb.symm.trans hb') (by decide)
  exact ⟨hpar, ⟨hm, ho⟩, ⟨hcnt, hbuf, hz, fun hb' => (hstopped hb').elim⟩, hout, fun hb' => (hstopped hb').elim, hrest⟩

/-- A parameter write keeps the invariant if it does so while the engine is stopped (46_host_commands.md R174). -/
theorem State.Inv.ifIdle {s t : State} (h : s.Inv) (ht : s.busy = false → t.Inv) : (s.ifIdle t).Inv := by
  unfold State.ifIdle
  split_ifs with hb
  · exact h
  · exact ht (by simpa using hb)

/-- A register write (46_host_commands.md R170 to R175). -/
theorem exec_regWrite_midStep {s : State} (h : s.Inv) (off : Nat) (v : Word) {n : Nat} (hn : 1 ≤ n) :
    EndsMidStep n (exec (decodeRegWrite off v) s) := by
  obtain ⟨⟨hpar, hlen⟩, hmem, -⟩ := id h
  unfold decodeRegWrite
  split_ifs
  · refine ⟨_, rfl, ?_⟩
    split_ifs with hb
    · exact ((h.writeOptions v).decoding (by simpa using hb) |>.enterError (by decide)).midStep n
    · exact (h.writeOptions v).midStep n
  · refine ⟨_, rfl, ?_⟩
    split_ifs
    · exact (h.writeOptions v).midStep n
    · obtain ⟨hpar', hmem', -⟩ := h.writeOptions v
      exact ⟨hn, hpar', hmem'⟩
  · exact ⟨_, rfl, (h.writeOptions v).midStep n⟩
  · exact ⟨_, rfl, (h.clearStatus v).midStep n⟩
  · exact ⟨_, rfl, (h.ifIdle fun hb => h.setParams hb v s.inLen hlen).midStep n⟩
  · refine ⟨_, rfl, (h.ifIdle fun hb => h.setParams hb s.index _ ?_).midStep n⟩
    rw [BitVec.toNat_ofNat]
    exact le_trans (Nat.mod_le _ _) (Nat.min_le_right _ _)
  · exact ⟨_, rfl, (h.ifIdle (t := { s with bufSize := v }) fun _ => h).midStep n⟩
  · exact ⟨_, rfl, h.midStep n⟩

/-- Everything an access to the IN window can do: it changes what a read returned, sets the refusal mark, or, while the engine
is stopped, stores bytes (46_host_commands.md R177). -/
theorem exec_inAccess_cases {s t : State} {a : MemAccess} (h : exec (.inAccess a) s = .next t) :
    t = { s with readData := t.readData } ∨ t = s.markRefused ∨
    s.busy = false ∧ ∃ n v, t = { s with inMem := putLittle n s.inMem a.offset v } := by
  change execInAccess a s = .next t at h
  unfold execInAccess at h
  split at h
  · split at h
    · cases h
      exact .inl rfl
    · split at h
      · cases h
      · next hb =>
        cases h
        exact .inr (.inr ⟨by simpa using hb, _, _, rfl⟩)
  · cases h
    exact .inr (.inl rfl)

/-- Everything an access to the OUT window can do: it changes what a read returned, sets the refusal mark, or, while the engine
is stopped, stores bytes (46_host_commands.md R178). -/
theorem exec_outAccess_cases {s t : State} {a : MemAccess} (h : exec (.outAccess a) s = .next t) :
    t = { s with readData := t.readData } ∨ t = s.markRefused ∨
    s.busy = false ∧ ∃ n v, t = { s with outMem := putLittle n s.outMem a.offset v } := by
  change execOutAccess a s = .next t at h
  unfold execOutAccess at h
  split at h
  · split at h
    · cases h
      exact .inl rfl
    · split at h
      · cases h
      · next hb =>
        cases h
        exact .inr (.inr ⟨by simpa using hb, _, _, rfl⟩)
  · cases h
    exact .inr (.inl rfl)

/-- Every host access that has a meaning keeps the invariant, up to the initialisation a START leaves to run. -/
theorem exec_host_midStep {s t : State} (h : s.Inv) {p : Params} {b : BusAccess} {i : Instr} (hi : decodeBus p b = some i)
    (he : exec i s = .next t) {n : Nat} (hn : 1 ≤ n) : t.MidStep n := by
  obtain ⟨-, ⟨hin, hout⟩, -⟩ := id h
  rcases decodeBus_cases hi with ⟨off, v, rfl⟩ | ⟨off, rfl⟩ | ⟨a, rfl⟩ | ⟨a, rfl⟩
  · obtain ⟨u, e, hu⟩ := exec_regWrite_midStep h off v hn
    cases e.symm.trans he
    exact hu
  · cases he
    exact State.Inv.midStep (s := { s with readData := _ }) h n
  · refine State.Inv.midStep ?_ n
    rcases exec_inAccess_cases he with e | rfl | ⟨hb, k, v, rfl⟩
    · rw [e]
      exact h
    · exact h
    · exact h.setMemories hb (putLittle_wf _ _ _ _ hin) hout
  · refine State.Inv.midStep ?_ n
    rcases exec_outAccess_cases he with e | rfl | ⟨hb, k, v, rfl⟩
    · rw [e]
      exact h
    · exact h
    · exact h.setMemories hb hin (putLittle_wf _ _ _ _ hout)

theorem State.Inv.hostStep {s t : State} (h : s.Inv) {b : BusAccess} (he : hostStep exec b s = .next t) : t.Inv := by
  cases hd : decodeBus s.par b with
  | none =>
    simp only [Machine.hostStep, hd] at he
    cases he
    exact h
  | some i =>
    rw [hostStep_access exec hd] at he
    have h' : (if b.wdata.isSome then s.advance else s).Inv := by
      split
      · exact h
      · exact h
    cases hx : exec i (if b.wdata.isSome then s.advance else s) with
    | next u =>
      obtain ⟨t', e, ht'⟩ := thenParts_inv (exec_host_midStep h' hd hx (by decide))
      rw [hx, e] at he
      cases he
      exact ht'
    | fault f => rw [hx] at he; cases he
    | refused r => rw [hx] at he; cases he

/-! ## Reset -/

/-- A block whose registers stand at the reset values meets the invariant, whatever its memories hold (10_state.md R31). -/
theorem State.resetWith_inv {p : Params} (hp : p.wf) : (State.resetWith p).Inv := by
  obtain ⟨hin, hout⟩ := State.resetWith_wf p
  have hflags : (State.resetWith p).FlagsOk := ⟨nofun, nofun, Nat.zero_le _, by show (0 : BitVec 8) ≠ 1; decide⟩
  exact ⟨⟨hp, Nat.zero_le _⟩, ⟨hin, hout⟩, ⟨Nat.zero_le _, Nat.one_pos, nofun, nofun⟩, ⟨le_rfl, Nat.zero_le _⟩, nofun,
    ⟨Nat.zero_le _, Nat.zero_le _, nofun⟩, hflags, rfl⟩

/-- RST keeps the memories, whose canonical form the invariant asks for (70_reset_and_hazards.md R202). -/
theorem State.Inv.applyReset {s : State} (h : s.Inv) : s.applyReset.Inv := by
  obtain ⟨⟨hpar, -⟩, ⟨hin, hout⟩, -⟩ := h
  exact (State.resetWith_inv hpar).setMemories rfl hin hout

/-! ## The statements -/

/-- Settles O4: the engine's step is followed part by part, with the parts still to run bounded; the host's moves leave a running
decode's registers and memories. -/
theorem invKeptByEveryStep : Obligations.InvKeptByEveryStep := by
  unfold Obligations.InvKeptByEveryStep
  intro s t h hstep
  have engine : ∀ u : State, u.Inv → engineStep exec u = .next t → t.Inv := fun u hu he => by
    cases hb : u.busy with
    | true =>
      obtain ⟨t', e, ht'⟩ := hu.engineStep hb
      cases e.symm.trans he
      exact ht'
    | false =>
      cases (engineStep_of_stopped hb hu.pend_eq).symm.trans he
  cases hscript : s.script with
  | nil =>
    rw [step_engine hscript] at hstep
    exact engine s h hstep
  | cons m ms =>
    have hs : (s.setScript ms).Inv := h
    cases m with
    | engine =>
      rw [step_engineMove hscript] at hstep
      split_ifs at hstep
      · exact engine _ hs hstep
      · cases hstep
        exact hs
    | bus b =>
      rw [step_bus hscript] at hstep
      exact hs.hostStep hstep
    | reset =>
      rw [step_reset hscript] at hstep
      cases hstep
      exact hs.applyReset

/-- Settles O3: the reset values under any parameters the spec allows, the reference ones among them. -/
theorem invHoldsAtReset : Obligations.InvHoldsAtReset :=
  ⟨State.resetWith_inv (by decide), fun _ hp => State.resetWith_inv hp⟩

/-- Settles O52: a running decode has neither flag set, and each of the host's ways to lower IRQ clears IE or both flags. -/
theorem irqFollowsFlags : Obligations.IrqFollowsFlags := by
  unfold Obligations.IrqFollowsFlags
  refine fun s => ⟨rfl, fun h hb => ?_, fun v hdone herr => ?_, fun v hie => ?_, ?_, rfl⟩
  · obtain ⟨-, -, -, -, -, -, hflags, -⟩ := h
    obtain ⟨hdone, herr⟩ := hflags.of_busy hb
    simp [State.irq, hdone, herr]
  · simp [State.irq, hdone, herr]
  · rw [State.irq, State.writeOptions_ie, hie, Bool.false_and]
  · simp [State.irq]

end Sys2Proof.Machine
end

section
/-! PROOFS. What an engine step leaves as it was (20_memory.md R41, R42): one relation between the states before and after a part of a
step, which every operation, every element and so every part keeps. -/

namespace Sys2Proof

open Sys2Proof.Machine

/-! ## The instructions the stream can name -/

/-- An element of the stream: an instruction a decode at some place of the grammar can answer (30_encoding.md R63 to R75). -/
inductive Instr.IsElement : Instr → Prop
  | zhdr (cmf flg : BitVec 8) : IsElement (.zhdr cmf flg)
  | block (f t : Nat) : IsElement (blockOf f t)
  | lenNlen (len nlen : BitVec 16) : IsElement (.lenNlen len nlen)
  | data (b : BitVec 8) : IsElement (.data b)
  | dyn (hlit hdist : BitVec 5) (hclen : BitVec 4) : IsElement (.dyn hlit hdist hclen)
  | cll (l : BitVec 3) : IsElement (.cll l)
  | codeLength {i : Instr} (h : i.clSymbol.isSome) : IsElement i
  | litLen {i : Instr} (h : i.isLitLen) : IsElement i
  | dist {i : Instr} (h : i.isDist) : IsElement i
  | trailer (w : Word) : IsElement (.trailer w)

/-- A decode answers an element, if it answers an instruction. -/
def Decoded.NamesElement : Decoded → Prop
  | .instr i _ => i.IsElement
  | .raise _ _ _ => True
  | .noByte _ => True

theorem Machine.Read.thenDecode_namesElement (x : Read α) (got : List Nat) {k : α → Reader → Decoded}
    (h : ∀ a r, (k a r).NamesElement) : (x.thenDecode got k).NamesElement :=
  match x with
  | .ok a r => h a r
  | .raise _ _ => trivial
  | .noByte _ => trivial

/-- An element of four whole bytes after byteAlign (30_encoding.md R65, R75). -/
theorem fourBytes_namesElement (byte : Nat → Option Byte) (r : Reader) {f : Byte → Byte → Byte → Byte → Instr}
    (h : ∀ b₀ b₁ b₂ b₃, (f b₀ b₁ b₂ b₃).IsElement) :
    ((readByte byte r.byteAlign).thenDecode [] fun b₀ r => (readByte byte r).thenDecode [] fun b₁ r =>
      (readByte byte r).thenDecode [] fun b₂ r => (readByte byte r).thenDecode [] fun b₃ r =>
        .instr (f b₀ b₁ b₂ b₃) r).NamesElement :=
  Read.thenDecode_namesElement _ _ fun b₀ _ => Read.thenDecode_namesElement _ _ fun b₁ _ =>
    Read.thenDecode_namesElement _ _ fun b₂ _ => Read.thenDecode_namesElement _ _ fun b₃ _ =>
      h b₀ b₁ b₂ b₃

theorem decodeDist_namesElement (byte : Nat → Option Byte) (len : Nat) (fixed : Bool) (t : Table) (r : Reader) :
    (decodeDist byte len fixed t r).NamesElement := by
  unfold decodeDist
  split
  · split
    · exact .dist (.inr (.inl ⟨_, rfl⟩))
    · next hd =>
      refine Read.thenDecode_namesElement _ _ fun e r => .dist ?_
      cases fixed
      · exact .inl rfl
      · exact fixedDistanceOf_isDist e (by omega)
  · unfold decodeEmptyDistance
    split_ifs
    · exact .dist (.inr (.inr (.inl rfl)))
    · exact .dist (.inr (.inr (.inr rfl)))
    · trivial
  · trivial

/-- Whatever the input holds, a decode answers an element: no host command, no START step and no RST stands in the stream. -/
theorem decode_namesElement (c : Ctx) (byte : Nat → Option Byte) (len : Nat) (r : Reader) :
    (decode c byte len r).NamesElement := by
  cases c with
  | zhdr =>
    show (decodeZhdr byte len r).NamesElement
    unfold decodeZhdr
    split_ifs
    · trivial
    · exact Read.thenDecode_namesElement _ _ fun cmf _ => Read.thenDecode_namesElement _ _ fun flg _ => .zhdr cmf flg
  | block =>
    exact Read.thenDecode_namesElement _ _ fun f _ => Read.thenDecode_namesElement _ _ fun t _ => .block f t
  | stored =>
    show (decodeStored byte len r).NamesElement
    unfold decodeStored
    split_ifs
    · trivial
    · exact fourBytes_namesElement byte r fun _ _ _ _ => .lenNlen _ _
  | data => exact Read.thenDecode_namesElement _ _ fun b _ => .data b
  | dyn =>
    exact Read.thenDecode_namesElement _ _ fun _ _ => Read.thenDecode_namesElement _ _ fun _ _ =>
      Read.thenDecode_namesElement _ _ fun _ _ => .dyn _ _ _
  | cll => exact Read.thenDecode_namesElement _ _ fun _ _ => .cll _
  | cl t =>
    exact Read.thenDecode_namesElement _ _ fun sym _ => Read.thenDecode_namesElement _ _ fun e _ =>
      .codeLength (clOf_clSymbol sym e)
  | litLen fixed t =>
    refine Read.thenDecode_namesElement _ _ fun sym _ => Read.thenDecode_namesElement _ _ fun e _ => .litLen ?_
    cases fixed
    · exact dynLitLenOf_isLitLen sym e
    · exact fixedLitLenOf_isLitLen sym e
  | dist fixed t => exact decodeDist_namesElement byte len fixed t r
  | trailer =>
    show (decodeTrailer byte len r).NamesElement
    unfold decodeTrailer
    split_ifs
    · trivial
    · exact fourBytes_namesElement byte r fun _ _ _ _ => .trailer _

end Sys2Proof

namespace Sys2Proof.Machine

/-! ## The relation -/

/-- What no part of an engine step writes: IN (20_memory.md R41), the parameters, the options (46_host_commands.md R172, R174), and the
model's own fields that belong to the host's moves (assumptions 2, 8, 9) or were drawn as the step began (assumption 18). -/
structure EngineConst where
  par : Params
  mode : Bool
  verify : Bool
  ie : Bool
  index : Word
  inLen : Word
  bufSize : Word
  inMem : Mem
  refusedMark : Bool
  readData : Word
  outDraw : Nat
  script : List Move

def State.engineConst (s : State) : EngineConst :=
  { par := s.par, mode := s.mode, verify := s.verify, ie := s.ie, index := s.index, inLen := s.inLen, bufSize := s.bufSize
    inMem := s.inMem, refusedMark := s.refusedMark, readData := s.readData, outDraw := s.outDraw, script := s.script }

/-- t can follow s inside an engine step: OP only grows and the bytes below it stay, of OUT exactly the bytes below OP are listed if it
was so before (20_memory.md R42), and no START step is left to run, which alone would begin OUT anew. -/
structure State.Continues (s t : State) : Prop where
  const : t.engineConst = s.engineConst
  op_le : s.op.toNat ≤ t.op.toNat
  get_below : ∀ a, a < s.op.toNat → t.outMem.get a = s.outMem.get a
  listed : s.outMem.map Prod.fst = List.range s.op.toNat → t.outMem.map Prod.fst = List.range t.op.toNat
  no_start : s.pend ≠ .startStep → t.pend ≠ .startStep

/-- The states an operation goes on with, or raises in, follow s. -/
def Res.Continues (s : State) : Res → Prop
  | .ok t => s.Continues t
  | .raise _ t => s.Continues t
  | .fault _ => True

/-- A part of a step that begins in s ends in a state that follows s, if it ends. -/
def EndsContinuing (s : State) (x : Host.Outcome State Fault Refusal) : Prop := ∀ t, x = .next t → s.Continues t

/-- A change that leaves OUT and OP alone. -/
theorem State.Continues.of_output_eq {s t : State} (hc : t.engineConst = s.engineConst) (hop : t.op = s.op)
    (hout : t.outMem = s.outMem) (hp : s.pend ≠ .startStep → t.pend ≠ .startStep) : s.Continues t :=
  ⟨hc, by rw [hop], fun a _ => by rw [hout], by rw [hout, hop]; exact id, hp⟩

theorem State.Continues.refl (s : State) : s.Continues s := .of_output_eq rfl rfl rfl id

theorem State.Continues.trans {s t u : State} (h₁ : s.Continues t) (h₂ : t.Continues u) : s.Continues u where
  const := h₂.const.trans h₁.const
  op_le := le_trans h₁.op_le h₂.op_le
  get_below a ha := (h₂.get_below a (lt_of_lt_of_le ha h₁.op_le)).trans (h₁.get_below a ha)
  listed h := h₂.listed (h₁.listed h)
  no_start h := h₂.no_start (h₁.no_start h)

theorem State.Continues.par_eq {s t : State} (h : s.Continues t) : t.par = s.par := congrArg EngineConst.par h.const

theorem Res.Continues.of_continues {s t : State} (h : s.Continues t) {x : Res} (hx : x.Continues t) : x.Continues s :=
  match x, hx with
  | .ok _, hx => h.trans hx
  | .raise _ _, hx => h.trans hx
  | .fault _, _ => trivial

theorem Res.Continues.andThen {s : State} {x : Res} (h : x.Continues s) {k : State → Res}
    (hk : ∀ t, s.Continues t → (k t).Continues t) : (x.andThen k).Continues s :=
  match x, h with
  | .ok t, h => (hk t h).of_continues h
  | .raise _ _, h => h
  | .fault _, _ => trivial

theorem EndsContinuing.next {s t : State} (h : s.Continues t) : EndsContinuing s (.next t) := by
  rintro _ ⟨⟩
  exact h

theorem EndsContinuing.fault (s : State) (f : Fault) : EndsContinuing s (.fault f) := fun _ h => nomatch h

theorem EndsContinuing.refused (s : State) (r : Refusal) : EndsContinuing s (.refused r) := fun _ h => nomatch h

theorem EndsContinuing.of_continues {s t : State} (h : s.Continues t) {x : Host.Outcome State Fault Refusal}
    (hx : EndsContinuing t x) : EndsContinuing s x := fun u hu => h.trans (hx u hu)

/-! ## What the operations leave -/

/-- Error entry keeps OUT and OP (60_exceptions.md R182). -/
theorem State.continues_enterError (s : State) (e : ErrorCode) : s.Continues (s.enterError e) :=
  .of_output_eq rfl rfl rfl fun _ => by simp

theorem Res.Continues.finish {s : State} {x : Res} (h : x.Continues s) : EndsContinuing s x.finish :=
  match x, h with
  | .ok _, h => .next h
  | .raise e t, h => .next (h.trans (t.continues_enterError e))
  | .fault f, _ => .fault s f

theorem State.continues_withReader (s : State) (r : Reader) : s.Continues (s.withReader r) := .of_output_eq rfl rfl rfl id

theorem State.continues_keepRead (s : State) (c : Ctx) (got : List Nat) : s.Continues (s.keepRead c got) := by
  unfold State.keepRead
  split <;> exact .of_output_eq rfl rfl rfl id

theorem State.continues_goTo (s : State) (f : Fsm) : s.Continues (s.goTo f) := .of_output_eq rfl rfl rfl nofun

theorem State.continues_complete (s : State) : s.Continues s.complete := .of_output_eq rfl rfl rfl nofun

theorem State.continues_setPend (s : State) {p : Pending} (hp : p ≠ .startStep) : s.Continues (s.setPend p) :=
  .of_output_eq rfl rfl rfl fun _ => hp

/-- `grow` writes CAP alone (44_output_growth.md R150). -/
theorem State.grow_continues (s : State) (required : Nat) (ratio : Option Nat) : (s.grow required ratio).Continues s := by
  unfold State.grow
  split_ifs
  · exact State.Continues.refl s
  · exact State.Continues.refl s
  · exact State.Continues.of_output_eq rfl rfl rfl id

/-- A byte written at OP is past every byte below OP (20_memory.md R42). -/
theorem State.emit_continues {s : State} (hsize : s.par.outMemSize ≤ 2 ^ 31) (b : Byte) : (s.emit b).Continues s := by
  rw [State.emit_eq]
  split_ifs with hlt
  · have hop : (s.op + 1).toNat = s.op.toNat + 1 := by
      rw [BitVec.toNat_add]
      exact Nat.mod_eq_of_lt (by simpa using by omega)
    refine ⟨rfl, ?_, fun a ha => Mem.get_put_other _ _ (by omega), fun h => ?_, id⟩
    · show s.op.toNat ≤ (s.op + 1).toNat
      omega
    · show _ = List.range (s.op + 1).toNat
      rw [hop]
      exact Mem.map_fst_put_range h b
  · trivial

theorem copyForward_continues (dist n : Nat) {s : State} (hsize : s.par.outMemSize ≤ 2 ^ 31) :
    (copyForward dist n s).Continues s := by
  induction n generalizing s with
  | zero => exact State.Continues.refl s
  | succ n ih =>
    rw [copyForward]
    split_ifs
    · exact (State.emit_continues hsize _).andThen fun t ht => ih (ht.par_eq ▸ hsize)
    · trivial

/-! ## What the elements leave -/

theorem zlibHeader_continues (cmf flg : BitVec 8) (s : State) : (zlibHeader cmf flg s).Continues s := by
  unfold zlibHeader
  split_ifs
  · exact State.Continues.refl s
  · exact State.Continues.refl s
  · exact State.Continues.refl s
  · exact s.continues_goTo .bhdr

theorem State.continues_selectFixed (s : State) : s.Continues s.selectFixed := .of_output_eq rfl rfl rfl id

theorem exec_blockOf_continues (f t : Nat) (s : State) : EndsContinuing s (exec (blockOf f t) s) := by
  have hset (x : BitVec 2) : s.Continues (s.setBlock (BitVec.ofNat 1 f) x) := .of_output_eq rfl rfl rfl id
  unfold blockOf
  split_ifs
  · exact .next ((hset 0).trans (State.continues_goTo _ .stored))
  · exact .next (((hset 1).trans (State.continues_selectFixed _)).trans (State.continues_goTo _ .body))
  · exact .next ((hset 2).trans (State.continues_goTo _ .dynhdr))
  · exact .next ((hset 3).trans (State.continues_enterError _ .unknownBlockType))

theorem storedHeader_continues (len nlen : BitVec 16) (s : State) : (storedHeader len nlen s).Continues s := by
  unfold storedHeader
  split_ifs
  · exact State.Continues.refl s
  · exact State.Continues.refl s
  · refine (s.grow_continues _ _).andThen fun t _ => ?_
    show t.Continues (t.beginData len.toNat)
    unfold State.beginData
    split_ifs
    · exact t.continues_goTo _
    · exact t.continues_setPend nofun

theorem storedByte_continues {s : State} (hsize : s.par.outMemSize ≤ 2 ^ 31) (b : BitVec 8) : (storedByte b s).Continues s := by
  refine (State.emit_continues hsize b).andThen fun t _ => ?_
  show t.Continues t.nextData
  unfold State.nextData
  split_ifs
  · exact t.continues_goTo _
  · exact t.continues_setPend nofun

theorem State.continues_endDynHeader (s : State) (sent : Nat) : s.Continues (s.endDynHeader sent) := .of_output_eq rfl rfl rfl id

theorem exec_cll_continues (l : BitVec 3) (s : State) : EndsContinuing s (exec (.cll l) s) := by
  have hset : s.Continues (s.setClLen s.pend.clNumber l) := .of_output_eq rfl rfl rfl id
  show EndsContinuing s (.next ((s.setClLen _ l).nextCll _))
  unfold State.nextCll
  split_ifs
  · exact .next (hset.trans (State.continues_setPend _ nofun))
  · exact .next ((hset.trans (State.continues_endDynHeader _ _)).trans (State.continues_goTo _ .clens))

theorem putLens_endClStep_continues (s : State) (n : Nat) (v prev : BitVec 4) : s.Continues (s.putLens n v prev).endClStep := by
  have hput : s.Continues (s.putLens n v prev) := .of_output_eq rfl rfl rfl id
  unfold State.endClStep
  split_ifs
  · exact hput.trans (State.continues_goTo _ .dynbuild)
  · exact hput

theorem exec_clSymbol_continues {i : Instr} (hi : i.clSymbol.isSome) (s : State) : EndsContinuing s (exec i s) := by
  obtain ⟨p, hi⟩ := Option.isSome_iff_exists.1 hi
  rcases exec_of_clSymbol hi s with ⟨v, e⟩ | ⟨n, v, e⟩
  · rw [e]
    exact .next (putLens_endClStep_continues s 1 v v)
  · rw [e]
    refine Res.Continues.finish ?_
    unfold repeatLength
    split_ifs
    · exact State.Continues.refl s
    · exact putLens_endClStep_continues s n v v

theorem literalByte_continues {s : State} (hsize : s.par.outMemSize ≤ 2 ^ 31) (v : BitVec 8) : (literalByte v s).Continues s := by
  rw [literalByte, s.growForLiteral_eq]
  exact (s.grow_continues _ _).andThen fun t ht => State.emit_continues (ht.par_eq ▸ hsize) v

theorem endOfBlock_continues (s : State) : s.Continues (endOfBlock s) :=
  (s.continues_withReader _).trans (State.continues_goTo _ _)

theorem exec_litLen_continues {s : State} (hsize : s.par.outMemSize ≤ 2 ^ 31) {i : Instr} (hi : i.isLitLen) :
    EndsContinuing s (exec i s) := by
  rcases hi with hi | rfl | rfl | hi
  · obtain ⟨v, hi⟩ := Option.isSome_iff_exists.1 hi
    rw [exec_of_literalOf hi]
    exact (literalByte_continues hsize v).finish
  · exact .next (endOfBlock_continues s)
  · exact .next (endOfBlock_continues s)
  · obtain ⟨n, hi⟩ := Option.isSome_iff_exists.1 hi
    rw [exec_of_lengthOf hi]
    exact .next (s.continues_setPend nofun)

theorem copyMatch_continues {s : State} (hsize : s.par.outMemSize ≤ 2 ^ 31) (dist : Nat) : (copyMatch dist s).Continues s := by
  unfold copyMatch
  split_ifs
  · exact State.Continues.refl s
  · exact (s.grow_continues _ _).andThen fun t ht =>
      (copyForward_continues dist _ (ht.par_eq ▸ hsize)).andThen fun u _ => u.continues_setPend nofun

theorem exec_dist_continues {s : State} (hsize : s.par.outMemSize ≤ 2 ^ 31) {i : Instr} (hi : i.isDist) :
    EndsContinuing s (exec i s) := by
  rcases hi with hi | ⟨d, rfl⟩ | rfl | rfl
  · obtain ⟨d, hi⟩ := Option.isSome_iff_exists.1 hi
    rw [exec_of_distanceOf hi]
    exact (copyMatch_continues hsize d).finish
  all_goals exact .next (s.continues_enterError _)

theorem finishDecode_continues (s : State) : (finishDecode s).Continues s := by
  have hload : s.Continues s.loadAdler := .of_output_eq rfl rfl rfl id
  unfold finishDecode
  split_ifs
  · exact hload.trans (State.continues_setPend _ nofun)
  · exact hload.trans (State.continues_complete _)
  · trivial

theorem checkTrailer_continues (w : Word) (s : State) : (checkTrailer w s).Continues s := by
  have hload : s.Continues (s.loadTrailer w) := .of_output_eq rfl rfl rfl id
  unfold checkTrailer
  split_ifs
  · exact hload
  · exact hload.trans (State.continues_complete _)

/-- Every element of the stream. -/
theorem exec_element_continues {s : State} (hsize : s.par.outMemSize ≤ 2 ^ 31) {i : Instr} (hi : i.IsElement) :
    EndsContinuing s (exec i s) := by
  cases hi with
  | zhdr cmf flg => exact (zlibHeader_continues cmf flg s).finish
  | block f t => exact exec_blockOf_continues f t s
  | lenNlen len nlen => exact (storedHeader_continues len nlen s).finish
  | data b => exact (storedByte_continues hsize b).finish
  | dyn hlit hdist hclen =>
    have hset : s.Continues (s.setCounts hlit hdist hclen) := .of_output_eq rfl rfl rfl id
    exact .next (hset.trans (State.continues_setPend _ nofun))
  | cll l => exact exec_cll_continues l s
  | codeLength h => exact exec_clSymbol_continues h s
  | litLen h => exact exec_litLen_continues hsize h
  | dist h => exact exec_dist_continues hsize h
  | trailer w => exact (checkTrailer_continues w s).finish

/-! ## The parts and the step -/

/-- The engine's steps that read no bits: DYNBUILD and FINISH, where no START step is left to run. -/
theorem exec_internalStep_continues {s : State} (hp : s.pend ≠ .startStep) {i : Instr} (hi : s.internalStep = some i) :
    EndsContinuing s (exec i s) := by
  unfold State.internalStep at hi
  split at hi
  case h_1 hp' => exact absurd hp' hp
  case h_2 =>
    cases hi
    have hbuild : s.Continues s.buildTables := .of_output_eq rfl rfl rfl id
    exact .next (hbuild.trans (State.continues_goTo _ .body))
  case h_3 =>
    cases hi
    exact (finishDecode_continues s).finish
  case h_4 => cases hi

theorem runPart_continues {s : State} (hsize : s.par.outMemSize ≤ 2 ^ 31) (hp : s.pend ≠ .startStep) :
    EndsContinuing s (runPart exec s) := by
  cases hc : s.place with
  | some c =>
    have hnames := decode_namesElement c s.readIn s.inLen.toNat s.reader
    cases hd : decode c s.readIn s.inLen.toNat s.reader with
    | instr i r =>
      rw [hd] at hnames
      rw [runPart_instr exec hc hd]
      exact (exec_element_continues (s := s.withReader r) hsize hnames).of_continues (s.continues_withReader r)
    | raise e r got =>
      rw [runPart_raise exec hc hd]
      exact .next (((s.continues_withReader r).trans (State.continues_keepRead _ c got)).trans (State.continues_enterError _ e))
    | noByte a =>
      simp only [runPart, State.fetch, hc, State.fetchAt, hd, Res.finish]
      exact .fault s _
  | none =>
    cases hi : s.internalStep with
    | some i =>
      rw [runPart_internal exec hc hi]
      exact exec_internalStep_continues hp hi
    | none =>
      simp only [runPart, State.fetch, hc, hi, Res.finish]
      exact .fault s _

theorem runParts_continues (n : Nat) {s : State} (hsize : s.par.outMemSize ≤ 2 ^ 31) (hp : s.pend ≠ .startStep) :
    EndsContinuing s (runParts exec n s) := by
  induction n generalizing s with
  | zero => exact .next (.refl s)
  | succ n ih =>
    by_cases hnone : s.pend = .none
    · rw [runParts_done hnone]
      exact .next (.refl s)
    · rw [runParts_succ exec hnone]
      cases hr : runPart exec s with
      | next u =>
        have hu : s.Continues u := runPart_continues hsize hp u hr
        exact (ih (hu.par_eq ▸ hsize) (hu.no_start hp)).of_continues hu
      | fault f => exact .fault s f
      | refused r => exact .refused s r

/-- An engine step follows on from the state it began in, with the free values drawn anew. -/
theorem step_continues_of_inv {s t : State} (h : s.Inv) (hscript : s.script = []) (hstep : step s = .next t) :
    s.advance.Continues t := by
  obtain ⟨hpar, -⟩ := id h
  have hsize : s.advance.par.outMemSize ≤ 2 ^ 31 := hpar.outMemSize_le
  have hp : s.advance.pend ≠ .startStep := by simp [h.pend_eq]
  rw [step_engine hscript] at hstep
  cases hr : runPart exec s.advance with
  | next u =>
    rw [hr] at hstep
    have hu : s.advance.Continues u := runPart_continues hsize hp u hr
    exact hu.trans (runParts_continues maxParts (hu.par_eq ▸ hsize) (hu.no_start hp) t hstep)
  | fault f => rw [hr] at hstep; cases hstep
  | refused r => rw [hr] at hstep; cases hstep

end Sys2Proof.Machine
end

section
/-! PROOFS. The memories (20_memory.md): what the engine leaves of IN and OUT, the accesses no window takes, and the stored bytes. -/

namespace Sys2Proof

open Sys2Proof.Machine

/-! ## The windows (20_memory.md R47, R49) -/

/-- A memory window takes no access of a wrong width, misaligned, or past its end. -/
theorem decodeMem_eq_none {size base addr bytes : Nat} (wdata : Option Word) (hbase : base ≤ addr)
    (h : ¬ (base ≤ addr ∧ addr + bytes ≤ base + size ∧ (bytes = 1 ∨ bytes = 2 ∨ bytes = 4) ∧ (addr - base) % bytes = 0)) :
    decodeMem size (addr - base) bytes wdata = none := by
  have illegal (w : Width) (hw : bytes = w.bytes) (hn : bytes = 1 ∨ bytes = 2 ∨ bytes = 4) :
      ¬ MemAccess.legal size { offset := addr - base, width := w, wdata := wdata } = true := by
    simp only [MemAccess.legal, Bool.and_eq_true, beq_iff_eq, decide_eq_true_eq, ← hw]
    rintro ⟨halign, hend⟩
    exact h ⟨hbase, by omega, hn, halign⟩
  unfold decodeMem Width.ofBytes
  split
  case h_1 w hw =>
    split at hw <;> cases hw
    · exact if_neg (illegal .one rfl (by decide))
    · exact if_neg (illegal .two rfl (by decide))
    · exact if_neg (illegal .four rfl (by decide))
  case h_2 => rfl

/-- The register window takes no access but of one aligned word. -/
theorem decodeReg_eq_none {off bytes : Nat} (wdata : Option Word) (h : ¬ (bytes = 4 ∧ off % 4 = 0)) :
    decodeReg off bytes wdata = none := if_neg h

end Sys2Proof

namespace Sys2Proof.Machine

/-- With no window to take it, an access sets the refusal mark (assumption 9). -/
theorem hostStep_refused (run : Instr → State → Host.Outcome State Fault Refusal) {s : State} {b : BusAccess}
    (h : decodeBus s.par b = none) : hostStep run b s = .next s.markRefused := by
  rw [hostStep, h]

/-! ## The bytes of OUT -/

/-- A written byte reads the same wherever the memory still holds it, whatever the draw. -/
theorem State.outByte_eq_of_get {s t : State} {n a : Nat} (h : s.outMem.map Prod.fst = List.range n) (ha : a < n)
    (hget : t.outMem.get a = s.outMem.get a) : t.outByte a = s.outByte a := by
  cases hg : s.outMem.get a with
  | none => exact absurd ((Mem.get_eq_none_iff _ _).1 hg) (by simp [h, ha])
  | some b => simp [State.outByte, hget, hg]

/-- What follows a stored data byte writes no byte of OUT (42_block_decoder.md R113). -/
theorem State.nextData_outByte (s : State) (a : Nat) : s.nextData.outByte a = s.outByte a := by
  unfold State.nextData
  split
  · rfl
  · rfl

/-! ## The statements -/

/-- Settles O10: no part of an engine step writes any of these fields. -/
theorem engineKeepsInputAndOptions : Obligations.EngineKeepsInputAndOptions := by
  unfold Obligations.EngineKeepsInputAndOptions
  intro s t h hscript _ hstep
  have hconst : t.engineConst = s.advance.engineConst := (step_continues_of_inv h hscript hstep).const
  simp only [State.engineConst, EngineConst.mk.injEq] at hconst
  obtain ⟨hpar, hmode, hverify, hie, hindex, hinLen, hbufSize, hinMem, hmark, hread, -, hmoves⟩ := hconst
  exact ⟨hinMem, hpar, hmode, hverify, hie, hindex, hinLen, hbufSize, hread, hmark, hmoves.trans hscript⟩

/-- Settles O11: the engine writes OUT at OP alone, so what was listed stays; what is not listed is read from the draw the step made. -/
theorem outputBelowCursorIsFinal : Obligations.OutputBelowCursorIsFinal := by
  unfold Obligations.OutputBelowCursorIsFinal
  intro s t h hscript hbusy hstep
  obtain ⟨hconst, hop, hget, hlisted, -⟩ := step_continues_of_inv h hscript hstep
  obtain ⟨-, -, -, -, hlist, -⟩ := h
  have hdraw : t.outDraw = s.advance.outDraw := congrArg EngineConst.outDraw hconst
  refine ⟨hop, fun a ha => State.outByte_eq_of_get (hlist hbusy) ha (hget a ha), ?_, fun a ha => ?_⟩
  · rw [hdraw, State.advance_outDraw, if_pos hbusy]
  · exact State.outByte_free (hlisted (hlist hbusy)) ha

/-- Settles O16: each window the address lies in refuses the access. -/
theorem refusedAccessChangesNothing : Obligations.RefusedAccessChangesNothing := by
  unfold Obligations.RefusedAccessChangesNothing
  rintro s b ms hscript ⟨hreg, hin, hout⟩
  have hnone : decodeBus (s.setScript ms).par b = none := by
    unfold decodeBus
    split_ifs with h₁ h₂ h₃
    · exact decodeReg_eq_none _ fun hw => hreg ⟨h₁.1, h₁.2, hw⟩
    · exact Option.map_eq_none_iff.2 (decodeMem_eq_none _ h₂.1 hin)
    · exact Option.map_eq_none_iff.2 (decodeMem_eq_none _ h₃.1 hout)
    · rfl
  rw [step_bus hscript, hostStep_refused exec hnone]
  rfl

/-- Settles O33: the byte goes out at OP, and the block ends where it was the last. -/
theorem storedByteIsCopied : Obligations.StoredByteIsCopied := by
  unfold Obligations.StoredByteIsCopied
  intro b n s hlt hp
  obtain ⟨u, hemit, hu⟩ : ∃ u, s.emit b = .ok u ∧ u = { s with outMem := u.outMem, op := s.op + 1 } :=
    ⟨_, (s.emit_eq b).trans (if_pos hlt), rfl⟩
  have hexec : exec (.data b) s = .next u.nextData := by
    show (storedByte b s).finish = _
    rw [storedByte, hemit]
    rfl
  have hleft : u.pend.dataLeft = n + 1 := by rw [hu, hp]; rfl
  have hbytes : ∀ a, u.nextData.outByte a = if a = s.op.toNat then b else s.outByte a := fun a =>
    (u.nextData_outByte a).trans (State.emit_outByte hemit a)
  refine ⟨u.nextData, hexec, hbytes, ?_⟩
  rw [State.nextData, hleft]
  cases n with
  | zero => rw [hu]; rfl
  | succ n => rw [hu]; rfl

end Sys2Proof.Machine
end


section
/-! PROOFS. The words of the stream read back (30_encoding.md): bit reversal, the reads of a word that stands alone in the
accumulator, the codes of the two ROM tables, and the rows of each code as the encoder's tables give them. -/

namespace Sys2Proof

open Sys2Proof.Machine

/-! ## Bit reversal (00_scope.md R6) -/

/-- One bit more at the top is one bit more at the bottom of the reversal. -/
theorem revBits_succ (n v : Nat) : revBits (n + 1) v = 2 * revBits n v + v / 2 ^ n % 2 := by
  induction n generalizing v with
  | zero => simp [revBits]
  | succ n ih =>
    rw [revBits, ih, revBits, Nat.div_div_eq_div_mul, ← Nat.pow_succ']
    ring

/-- Only the low n bits are reversed. -/
theorem revBits_mod (n v : Nat) : revBits n (v % 2 ^ n) = revBits n v := by
  induction n generalizing v with
  | zero => rfl
  | succ n ih =>
    have hlow : v % 2 ^ (n + 1) % 2 = v % 2 := Nat.mod_mod_of_dvd _ (dvd_pow_self 2 n.succ_ne_zero)
    have hhigh : v % 2 ^ (n + 1) / 2 = v / 2 % 2 ^ n := by rw [Nat.pow_succ', Nat.mod_mul_right_div_self]
    rw [revBits, revBits, hlow, hhigh, ih]

/-- Two reversals give the low n bits back. -/
theorem revBits_revBits (n v : Nat) : revBits n (revBits n v) = v % 2 ^ n := by
  induction n generalizing v with
  | zero => simp [revBits, Nat.mod_one]
  | succ n ih =>
    have hlow : (2 * revBits n v + v / 2 ^ n % 2) % 2 = v / 2 ^ n % 2 := by omega
    have hhigh : (2 * revBits n v + v / 2 ^ n % 2) / 2 = revBits n v := by omega
    rw [revBits_succ n v, revBits, hlow, hhigh, ih, Nat.mod_pow_succ]
    ring

/-- The bits of a window that begins with a code, reversed, begin with the code. -/
theorem revBits_of_mod_eq {n j code : Nat} (hcode : code < 2 ^ n) (h : j % 2 ^ n = revBits n code) : revBits n j = code := by
  rw [← revBits_mod, h, revBits_revBits, Nat.mod_eq_of_lt hcode]

/-- A shorter reversal is the longer one's high bits. -/
theorem revBits_eq_div_two (n v : Nat) : revBits n v = revBits (n + 1) v / 2 := by
  rw [revBits_succ]
  omega

/-! ## Slot words (00_scope.md R8) -/

theorem slotWord_toNat {len sym : Nat} (hlen : len < 2 ^ 16) (hsym : sym < 2 ^ 16) :
    (slotWord len sym).toNat = len * 2 ^ 16 + sym := by
  rw [slotWord, BitVec.toNat_ofNat, Nat.shiftLeft_eq, Nat.mul_comm, ← Nat.two_pow_add_eq_or_of_lt hsym]
  exact Nat.mod_eq_of_lt (by omega)

theorem slotLen_slotWord {len sym : Nat} (hlen : len < 2 ^ 16) (hsym : sym < 2 ^ 16) : slotLen (slotWord len sym) = len := by
  rw [slotLen, slotWord_toNat hlen hsym, Nat.shiftRight_eq_div_pow]
  omega

theorem slotSym_slotWord {len sym : Nat} (hlen : len < 2 ^ 16) (hsym : sym < 2 ^ 16) : slotSym (slotWord len sym) = sym := by
  rw [slotSym, slotWord_toNat hlen hsym, show 0xFFFF = 2 ^ 16 - 1 from rfl, Nat.and_two_pow_sub_one_eq_mod]
  omega

/-! ## Reads of a word that stands alone in the accumulator -/

/-- With no input left nothing is refilled (40_bitreader.md R90). -/
theorem fillTo_noInput (byte : Nat → Option Byte) (need fuel : Nat) (r : Reader) : fillTo byte 0 need fuel r = .ok () r := by
  cases fuel <;> simp [fillTo]

/-- Taking the low bits of a word leaves the rest of it. -/
theorem Machine.Reader.consume_word {n w e : Nat} (m : Nat) (h : w < 2 ^ n) :
    Reader.consume { ip := 0, cnt := n + m, buf := w + e * 2 ^ n } n = { ip := 0, cnt := m, buf := e } := by
  have hbuf : (w + e * 2 ^ n) / 2 ^ n = e := by
    rw [Nat.add_mul_div_right _ _ (by positivity), Nat.div_eq_of_lt h, Nat.zero_add]
  simp only [Reader.consume, Nat.add_sub_cancel_left, Nat.shiftRight_eq_div_pow, hbuf]

/-- A field followed by others is read off the word (40_bitreader.md R91). -/
theorem readBits_word (byte : Nat → Option Byte) {n w : Nat} (m e : Nat) (h : w < 2 ^ n) :
    readBits byte 0 n { ip := 0, cnt := n + m, buf := w + e * 2 ^ n } = .ok w { ip := 0, cnt := m, buf := e } := by
  have hlow : (w + e * 2 ^ n) % 2 ^ n = w := by rw [Nat.add_mul_mod_self_right, Nat.mod_eq_of_lt h]
  simp only [readBits, fillTo_noInput, if_neg (show ¬ n + m < n by omega), hlow, Reader.consume_word m h]

/-- The last field of a word leaves the accumulator empty. -/
theorem readBits_lastField (byte : Nat → Option Byte) {n w : Nat} (h : w < 2 ^ n) :
    readBits byte 0 n { ip := 0, cnt := n, buf := w } = .ok w { ip := 0, cnt := 0, buf := 0 } := by
  simpa using readBits_word byte 0 0 h

/-- A code is read off the word with the table that codes it (R92). -/
theorem readCode_word (byte : Nat → Option Byte) {t : Table} {sym L rcode : Nat} (h : t.codes sym L rcode) (m e : Nat) :
    readCode byte 0 t { ip := 0, cnt := L + m, buf := rcode + e * 2 ^ L } = .ok sym { ip := 0, cnt := m, buf := e } := by
  obtain ⟨hpos, hmax, hsym, hcode, hslots⟩ := h
  have hL : L < 2 ^ 16 := by have := t.max.isLt; omega
  have hselect : t.select { ip := 0, cnt := L + m, buf := rcode + e * 2 ^ L } = slotWord L sym := by
    refine hslots _ (Nat.mod_lt _ (by positivity)) ?_
    show (rcode + e * 2 ^ L) % _ % _ = rcode
    rw [Nat.mod_mod_of_dvd _ (pow_dvd_pow 2 hmax), Nat.add_mul_mod_self_right, Nat.mod_eq_of_lt hcode]
  simp only [readCode, fillTo_noInput, hselect, slotLen_slotWord hL hsym, slotSym_slotWord hL hsym,
    if_neg (show ¬ L = 0 by omega), if_neg (show ¬ L + m < L by omega), Reader.consume_word m hcode]

/-! ## A symbol of a table and its extra bits -/

/-- A code-length symbol (30_encoding.md R68). -/
theorem decodeCl_word {t : Table} {sym L rcode e : Nat} (h : t.codes sym L rcode) (he : e < 2 ^ clExtraBits sym) :
    decodeStream (.cl t) (.bits (L + clExtraBits sym) (rcode + e * 2 ^ L)) =
      some (.instr (clOf sym e) { ip := 0, cnt := 0, buf := 0 }) := by
  simp only [decodeStream, decode, decodeCl, readCode_word _ h, readBits_lastField _ he, Read.thenDecode]

/-- A literal/length symbol (R69, R70). -/
theorem decodeLitLen_word (fixed : Bool) {t : Table} {sym L rcode e : Nat} (h : t.codes sym L rcode)
    (he : e < 2 ^ litLenExtraBits sym) :
    decodeStream (.litLen fixed t) (.bits (L + litLenExtraBits sym) (rcode + e * 2 ^ L)) =
      some (.instr (if fixed then fixedLitLenOf sym e else dynLitLenOf sym e) { ip := 0, cnt := 0, buf := 0 }) := by
  simp only [decodeStream, decode, decodeLitLen, readCode_word _ h, readBits_lastField _ he, Read.thenDecode]

/-- A distance symbol with an entry (R71). -/
theorem decodeDist_word (fixed : Bool) {t : Table} {d L rcode e : Nat} (h : t.codes d L rcode) (hd : d < 30)
    (he : e < 2 ^ distanceExtraBits d) :
    decodeStream (.dist fixed t) (.bits (L + distanceExtraBits d) (rcode + e * 2 ^ L)) =
      some (.instr (if fixed then fixedDistanceOf d e else dynDistanceOf d e) { ip := 0, cnt := 0, buf := 0 }) := by
  simp only [decodeStream, decode, decodeDist, readCode_word _ h, if_neg (Nat.not_le.2 hd), readBits_lastField _ he,
    Read.thenDecode]

/-- A distance symbol without an entry (R71). -/
theorem decodeDist_word_invalid (fixed : Bool) {t : Table} {d L rcode : Nat} (h : t.codes d L rcode) (hd : 30 ≤ d) :
    decodeStream (.dist fixed t) (.bits L rcode) =
      some (.instr (.distInvalid (if d = 30 then 30 else 31)) { ip := 0, cnt := 0, buf := 0 }) := by
  have hread := readCode_word (fun _ => none) h 0 0
  rw [Nat.add_zero, Nat.zero_mul, Nat.add_zero] at hread
  simp only [decodeStream, decode, decodeDist, hread, if_pos hd]

/-! ## The codes of the ROM tables (41_huffman_builder.md R105, R106) -/

theorem tabulate_getD (f : Nat → Word) (n j k : Nat) (h : k < n) : (tabulate f n j).getD k 0 = f (j + k) := by
  induction n generalizing j k with
  | zero => omega
  | succ n ih =>
    cases k with
    | zero => rfl
    | succ k => rw [tabulate, List.getD_cons_succ, ih _ _ (by omega), Nat.add_right_comm, Nat.add_assoc]

theorem flit_slot {j : Nat} (h : j < 512) : flit.slot j = flitWord j :=
  (tabulate_getD flitWord 512 0 j h).trans (by rw [Nat.zero_add])

theorem fdist_slot {j : Nat} (h : j < 32) : fdist.slot j = fdistWord j :=
  (tabulate_getD fdistWord 32 0 j h).trans (by rw [Nat.zero_add])

/-- The word of a window of FLIT by the code's first 7, 8 and 9 bits. -/
theorem flitWord_eq (j : Nat) :
    flitWord j =
      if revBits 7 j ≤ 23 then slotWord 7 (256 + revBits 7 j)
      else if 0x30 ≤ revBits 8 j ∧ revBits 8 j ≤ 0xBF then slotWord 8 (revBits 8 j - 0x30)
      else if 0xC0 ≤ revBits 8 j ∧ revBits 8 j ≤ 0xC7 then slotWord 8 (280 + revBits 8 j - 0xC0)
      else slotWord 9 (144 + revBits 9 j - 0x190) := by
  have h7 : revBits 7 (j % 0x80) = revBits 7 j := revBits_mod 7 j
  have h8 : revBits 8 (j % 0x100) = revBits 8 j := revBits_mod 8 j
  rw [flitWord, h7, h8]

/-- Every window of FLIT that begins with a symbol's code (R73) holds the symbol's slot word. -/
theorem flitWord_of_code {sym j : Nat} (h : sym < 288)
    (hj : j % 2 ^ (fixedLitLenCode sym).1 = revBits (fixedLitLenCode sym).1 (fixedLitLenCode sym).2) :
    flitWord j = slotWord (fixedLitLenCode sym).1 sym := by
  have h7 : revBits 7 j = revBits 8 j / 2 := revBits_eq_div_two 7 j
  have h8 : revBits 8 j = revBits 9 j / 2 := revBits_eq_div_two 8 j
  unfold fixedLitLenCode at hj ⊢
  split_ifs at hj ⊢ with h₁ h₂ h₃
  · have hcode : revBits 8 j = 0x30 + sym := revBits_of_mod_eq (by omega) hj
    rw [flitWord_eq, if_neg (by omega), if_pos (by omega), hcode, Nat.add_sub_cancel_left]
  · have hcode : revBits 9 j = 0x190 + (sym - 144) := revBits_of_mod_eq (by omega) hj
    rw [flitWord_eq, if_neg (by omega), if_neg (by omega), if_neg (by omega)]
    exact congrArg (slotWord 9) (by omega)
  · have hcode : revBits 7 j = sym - 256 := revBits_of_mod_eq (by omega) hj
    rw [flitWord_eq, if_pos (by omega)]
    exact congrArg (slotWord 7) (by omega)
  · have hcode : revBits 8 j = 0xC0 + (sym - 280) := revBits_of_mod_eq (by omega) hj
    rw [flitWord_eq, if_neg (by omega), if_neg (by omega), if_pos (by omega)]
    exact congrArg (slotWord 8) (by omega)

/-- FLIT codes each symbol as R73 says. -/
theorem flit_codes {sym : Nat} (h : sym < 288) :
    flit.codes sym (fixedLitLenCode sym).1 (revBits (fixedLitLenCode sym).1 (fixedLitLenCode sym).2) := by
  have hpos : 1 ≤ (fixedLitLenCode sym).1 := by unfold fixedLitLenCode; split_ifs <;> simp
  exact ⟨hpos, Laws.EncodingFits.fixedLitLenCode_le sym, by omega, Laws.EncodingFits.revBits_lt _ _,
    fun j hj hmod => (flit_slot hj).trans (flitWord_of_code h hmod)⟩

/-- FDIST codes each symbol with an entry as R74 says. -/
theorem fdist_codes {d : Nat} (h : d < 30) : fdist.codes d 5 (revBits 5 d) := by
  refine ⟨by decide, by decide, by omega, Laws.EncodingFits.revBits_lt 5 d, fun j hj hmod => ?_⟩
  have hrev : revBits 5 j = d := revBits_of_mod_eq (by omega) hmod
  rw [fdist_slot hj, fdistWord, hrev, if_pos h]

/-! ## The rows of the encoder's tables -/

/-- The decoder's list has each LIT row of the fixed code at the byte the encoder gives it (30_encoding.md R69). -/
theorem fixedLiterals_getD {i : Instr} {v : Byte} (h : i.fixedLiteral = some v) : fixedLiterals.getD v.toNat .eob = i := by
  cases i <;> cases h <;> decide +kernel

/-- The words of a LIT row of the fixed code, and the symbol it stands for (R69, R73). -/
theorem encode_of_fixedLiteral {i : Instr} {v : Byte} (h : i.fixedLiteral = some v) :
    encode i = encodeCode (fixedLitLenCode v.toNat).1 (fixedLitLenCode v.toNat).2 0 0 ∧ fixedLitLenOf v.toNat 0 = i :=
  ⟨by rw [encode, h], (if_pos v.isLt).trans (fixedLiterals_getD h)⟩

/-- The words of a LEN row of the fixed code, and the symbol it stands for (R70, R73). -/
theorem encode_of_fixedLength {i : Instr} {p : Nat × Nat} (h : i.fixedLength = some p) :
    encode i = encodeCode (fixedLitLenCode (257 + p.1)).1 (fixedLitLenCode (257 + p.1)).2 (lengthExtraBits p.1) p.2 ∧
    p.1 ≤ 30 ∧ p.2 < 2 ^ lengthExtraBits p.1 ∧ fixedLitLenOf (257 + p.1) p.2 = i := by
  unfold Instr.fixedLength at h
  split at h <;> cases h
  all_goals
    refine ⟨rfl, by simp, ?_, by simp [fixedLitLenOf, lengthIndex, fixedLengths]⟩
    simp [lengthExtraBits, lextTable] <;> omega

/-- The words of a DIST row of the fixed code, and the symbol it stands for (R71, R74). -/
theorem encode_of_fixedDistance {i : Instr} {p : Nat × Nat} (h : i.fixedDistance = some p) :
    encode i = encodeCode 5 p.1 (distanceExtraBits p.1) p.2 ∧
    p.1 < 30 ∧ p.2 < 2 ^ distanceExtraBits p.1 ∧ fixedDistanceOf p.1 p.2 = i := by
  unfold Instr.fixedDistance at h
  split at h <;> cases h
  all_goals
    refine ⟨rfl, by simp, ?_, by simp [fixedDistanceOf, fixedDistances]⟩
    simp [distanceExtraBits, dextTable] <;> omega

/-- The words of a CL row, and the symbol it stands for (R68). -/
theorem encode_of_clSymbol {i : Instr} {p : Nat × Nat} (h : i.clSymbol = some p) :
    encode i = .coded p.1 (clExtraBits p.1) p.2 ∧ p.2 < 2 ^ clExtraBits p.1 ∧ clOf p.1 p.2 = i := by
  unfold Instr.clSymbol at h
  split at h <;> cases h
  all_goals
    refine ⟨rfl, ?_, by simp [clOf, clLiterals]⟩
    simp [clExtraBits] <;> omega

/-! ## Symbols of the fixed code -/

/-- A symbol of the fixed literal/length code with its extra bits (R73). -/
theorem decodeStream_fixedLitLen {sym e : Nat} (hsym : sym < 288) (he : e < 2 ^ litLenExtraBits sym) :
    decodeStream (.litLen true flit) (encodeCode (fixedLitLenCode sym).1 (fixedLitLenCode sym).2 (litLenExtraBits sym) e) =
      some (.instr (fixedLitLenOf sym e) { ip := 0, cnt := 0, buf := 0 }) :=
  decodeLitLen_word true (flit_codes hsym) he

/-- A symbol of the fixed distance code with its extra bits (R74). -/
theorem decodeStream_fixedDistance {d e : Nat} (hd : d < 30) (he : e < 2 ^ distanceExtraBits d) :
    decodeStream (.dist true fdist) (encodeCode 5 d (distanceExtraBits d) e) =
      some (.instr (fixedDistanceOf d e) { ip := 0, cnt := 0, buf := 0 }) :=
  decodeDist_word true (fdist_codes hd) hd he

/-- A symbol below 257 has no extra bits (R70). -/
theorem litLenExtraBits_of_le {sym : Nat} (h : sym ≤ 256) : litLenExtraBits sym = 0 := if_pos h

/-- The length symbol of an index has that index (R70). -/
theorem lengthIndex_symbol {idx : Nat} (h : idx ≤ 30) : lengthIndex (257 + idx) = idx := by
  rw [lengthIndex, Nat.add_sub_cancel_left]
  exact Nat.min_eq_left h

theorem litLenExtraBits_symbol {idx : Nat} (h : idx ≤ 30) : litLenExtraBits (257 + idx) = lengthExtraBits idx := by
  rw [litLenExtraBits, if_neg (by omega), lengthIndex_symbol h]

/-! ## The words of the elements that no table codes -/

/-- A block header (R64). -/
theorem decodeStream_block {i : Instr} {f : BitVec 1} {t : Nat} (ht : t < 4) (hi : blockOf f.toNat t = i) :
    decodeStream .block (.bits 3 (f.toNat + t * 2)) = some (.instr i { ip := 0, cnt := 0, buf := 0 }) := by
  have hbfinal : readBits (fun _ => none) 0 1 { ip := 0, cnt := 3, buf := f.toNat + t * 2 } =
      .ok f.toNat { ip := 0, cnt := 2, buf := t } := readBits_word _ 2 t f.isLt
  simp only [decodeStream, decode, decodeBlock, hbfinal, readBits_lastField (n := 2) _ ht, Read.thenDecode, hi]

/-- The counts of a dynamic header (R66). -/
theorem decodeStream_dyn (x y : BitVec 5) (z : BitVec 4) :
    decodeStream .dyn (encode (.dyn x y z)) = some (.instr (.dyn x y z) { ip := 0, cnt := 0, buf := 0 }) := by
  have hwords : encode (.dyn x y z) = .bits (5 + (5 + 4)) (x.toNat + (y.toNat + z.toNat * 2 ^ 5) * 2 ^ 5) := by
    show Encoded.bits 14 (x.toNat + y.toNat * 2 ^ 5 + z.toNat * 2 ^ 10) = _
    congr 1
    ring
  simp only [hwords, decodeStream, decode, decodeDyn, readBits_word _ _ _ x.isLt, readBits_word _ _ _ y.isLt,
    readBits_lastField _ z.isLt, Read.thenDecode, BitVec.ofNat_toNat, BitVec.setWidth_eq]

/-- A code-length code length (R66). -/
theorem decodeStream_cll (l : BitVec 3) :
    decodeStream .cll (encode (.cll l)) = some (.instr (.cll l) { ip := 0, cnt := 0, buf := 0 }) := by
  show decodeStream .cll (.bits 3 l.toNat) = _
  simp only [decodeStream, decode, decodeCll, readBits_lastField _ l.isLt, Read.thenDecode, BitVec.ofNat_toNat, BitVec.setWidth_eq]

/-- A field is its high bits above its low bits. -/
theorem shiftRight_append_setWidth {m n : Nat} (v : BitVec (m + n)) : (v >>> n).setWidth m ++ v.setWidth n = v := by
  refine BitVec.eq_of_getLsbD_eq fun i hi => ?_
  simp only [BitVec.getLsbD_append, BitVec.getLsbD_setWidth, BitVec.getLsbD_ushiftRight]
  split_ifs with h
  · simp [h]
  · rw [Nat.add_sub_of_le (by omega)]
    simp
    omega

/-- A 16-bit field from its two bytes, little-endian (20_memory.md R45). -/
theorem littleEndian16_bytes (v : BitVec 16) : littleEndian16 (v.setWidth 8) ((v >>> 8).setWidth 8) = v :=
  shiftRight_append_setWidth (m := 8) (n := 8) v

/-- A 32-bit field from its four bytes, big-endian (R45). -/
theorem bigEndian32_bytes (w : BitVec 32) :
    bigEndian32 ((w >>> 24).setWidth 8) ((w >>> 16).setWidth 8) ((w >>> 8).setWidth 8) (w.setWidth 8) = w := by
  refine BitVec.eq_of_getLsbD_eq fun i hi => ?_
  simp only [bigEndian32, BitVec.getLsbD_append, BitVec.getLsbD_setWidth, BitVec.getLsbD_ushiftRight]
  split_ifs
  · simp [*]
  · rw [show 8 + (i - 8) = i by omega, decide_eq_true (by omega), Bool.true_and]
  · rw [show 16 + (i - 8 - 8) = i by omega, decide_eq_true (by omega), Bool.true_and]
  · rw [show 24 + (i - 8 - 8 - 8) = i by omega, decide_eq_true (by omega), Bool.true_and]
/-- A stored header (R65). -/
theorem decodeStream_lenNlen (len nlen : BitVec 16) :
    decodeStream .stored (encode (.lenNlen len nlen)) = some (.instr (.lenNlen len nlen) { ip := 4, cnt := 0, buf := 0 }) := by
  have hlen := littleEndian16_bytes len
  have hnlen := littleEndian16_bytes nlen
  show decodeStream .stored (.bytes [_, _, _, _]) = _
  simp [decodeStream, decode, decodeStored, readByte, Reader.byteAlign, Read.thenDecode, hlen, hnlen]

/-- A trailer (R75). -/
theorem decodeStream_trailer (w : BitVec 32) :
    decodeStream .trailer (encode (.trailer w)) = some (.instr (.trailer w) { ip := 4, cnt := 0, buf := 0 }) := by
  have hw := bigEndian32_bytes w
  show decodeStream .trailer (.bytes [_, _, _, _]) = _
  simp [decodeStream, decode, decodeTrailer, readByte, Reader.byteAlign, Read.thenDecode, hw]

/-- The element at a place reads the words of an instruction back and uses every one of them (30_encoding.md R60 to R75). -/
def Instr.ReadsBack (i : Instr) (c : Ctx) : Prop :=
  ∃ r, decodeStream c (encode i) = some (.instr i r) ∧ r.cnt = 0 ∧ r.buf = 0 ∧ ∀ bs, encode i = .bytes bs → r.ip = bs.length

theorem Instr.ReadsBack.of_bits {i : Instr} {c : Ctx} {n w : Nat} (he : encode i = .bits n w)
    (hd : decodeStream c (.bits n w) = some (.instr i { ip := 0, cnt := 0, buf := 0 })) : i.ReadsBack c :=
  ⟨_, he ▸ hd, rfl, rfl, fun bs h => by rw [he] at h; cases h⟩

theorem Instr.ReadsBack.of_bytes {i : Instr} {c : Ctx} {bs : List Byte} (he : encode i = .bytes bs)
    (hd : decodeStream c (.bytes bs) = some (.instr i { ip := bs.length, cnt := 0, buf := 0 })) : i.ReadsBack c :=
  ⟨_, he ▸ hd, rfl, rfl, fun bs' h => by rw [he] at h; cases h; rfl⟩

theorem fixedLiteral_readsBack {i : Instr} {v : Byte} (h : i.fixedLiteral = some v) : i.ReadsBack (.litLen true flit) := by
  obtain ⟨he, hi⟩ := encode_of_fixedLiteral h
  have hv := v.isLt
  have hext := litLenExtraBits_of_le (sym := v.toNat) (by omega)
  have hd := decodeStream_fixedLitLen (sym := v.toNat) (e := 0) (by omega) (by simp)
  rw [hext, hi] at hd
  exact .of_bits he hd

theorem fixedLength_readsBack {i : Instr} {p : Nat × Nat} (h : i.fixedLength = some p) : i.ReadsBack (.litLen true flit) := by
  obtain ⟨he, hidx, hext, hi⟩ := encode_of_fixedLength h
  rw [← litLenExtraBits_symbol hidx] at he hext
  exact .of_bits he (hi ▸ decodeStream_fixedLitLen (by omega) hext)

theorem fixedDistance_readsBack {i : Instr} {p : Nat × Nat} (h : i.fixedDistance = some p) : i.ReadsBack (.dist true fdist) := by
  obtain ⟨he, hd, hext, hi⟩ := encode_of_fixedDistance h
  exact .of_bits he (hi ▸ decodeStream_fixedDistance hd hext)

/-- The rows of the fixed code: a literal and a length stand with FLIT, a distance with FDIST (R73, R74). -/
theorem fixedRow_readsBack {i : Instr} {c : Ctx}
    (h : (if i.fixedLiteral.isSome || i.fixedLength.isSome then some (.litLen true flit)
      else if i.fixedDistance.isSome then some (.dist true fdist) else none) = some c) : i.ReadsBack c := by
  split_ifs at h with hlit hdist
  · cases h
    rcases Bool.or_eq_true_iff.1 hlit with hi | hi
    · obtain ⟨v, hi⟩ := Option.isSome_iff_exists.1 hi
      exact fixedLiteral_readsBack hi
    · obtain ⟨p, hi⟩ := Option.isSome_iff_exists.1 hi
      exact fixedLength_readsBack hi
  · cases h
    obtain ⟨p, hi⟩ := Option.isSome_iff_exists.1 hdist
    exact fixedDistance_readsBack hi

/-! ## The symbols of a dynamic table -/

theorem dynLitLenOf_length {idx : BitVec 5} (h : idx.toNat ≤ 30) (e : BitVec 5) :
    dynLitLenOf (257 + idx.toNat) e.toNat = .lenDyn idx e := by
  rw [dynLitLenOf, if_neg (by omega), if_neg (by omega), lengthIndex_symbol h]
  simp only [BitVec.ofNat_toNat, BitVec.setWidth_eq]

/-- The two distance symbols without an entry (30_encoding.md R71). -/
theorem distInvalid_symbol {d : BitVec 5} (h : 30 ≤ d.toNat) : (if d.toNat = 30 then 30 else 31) = d := by
  have hd := d.isLt
  split_ifs with h30
  · exact BitVec.eq_of_toNat_eq h30.symm
  · exact BitVec.eq_of_toNat_eq (show 31 = d.toNat by omega)

/-- A code-length symbol (R68). -/
theorem decodeStream_clRow {i : Instr} {c : Ctx} {t : Table} {sym n e L rcode : Nat}
    (hplace : (if i.clSymbol.isSome then some (.cl t) else none) = some c) (henc : encode i = .coded sym n e)
    (hcode : t.codes sym L rcode) :
    decodeStream c (.bits (L + n) (rcode + e * 2 ^ L)) = some (.instr i { ip := 0, cnt := 0, buf := 0 }) := by
  split_ifs at hplace with hi
  cases hplace
  obtain ⟨p, hp⟩ := Option.isSome_iff_exists.1 hi
  obtain ⟨hrow, hext, hof⟩ := encode_of_clSymbol hp
  cases hrow.symm.trans henc
  exact hof ▸ decodeCl_word hcode hext

/-! ## Well-formedness of what a decode answers -/

/-- A decode answers a well-formed instruction, if it answers an instruction. -/
def Decoded.IsWellFormed : Decoded → Prop
  | .instr i _ => i.wellFormed = true
  | .raise _ _ _ => True
  | .noByte _ => True

/-- A decode that goes on with a read: what is known of the value read may be used. -/
theorem Machine.Read.thenDecode_wellFormed {x : Read α} {got : List Nat} {k : α → Reader → Decoded}
    (h : ∀ a r, x = .ok a r → (k a r).IsWellFormed) : (x.thenDecode got k).IsWellFormed :=
  match x, h with
  | .ok a r, h => h a r rfl
  | .raise _ _, _ => trivial
  | .noByte _, _ => trivial

/-- Whatever the input holds, a field of n bits is below 2^n (40_bitreader.md R91). -/
theorem Machine.readBits_lt {byte : Nat → Option Byte} {len n v : Nat} {r r' : Reader} (h : readBits byte len n r = .ok v r') :
    v < 2 ^ n := by
  unfold readBits at h
  split at h
  · split_ifs at h
    cases h
    exact Nat.mod_lt _ (by positivity)
  · cases h
  · cases h

theorem blockOf_wellFormed (f t : Nat) : (blockOf f t).wellFormed = true := by unfold blockOf; split_ifs <;> rfl

theorem clOf_wellFormed (sym e : Nat) : (clOf sym e).wellFormed = true := by
  obtain ⟨p, hp⟩ := Option.isSome_iff_exists.1 (clOf_clSymbol sym e)
  generalize clOf sym e = i at hp
  unfold Instr.clSymbol at hp
  split at hp <;> cases hp <;> rfl

theorem fixedLiterals_wellFormed : ∀ i ∈ fixedLiterals, i.wellFormed = true := by decide +kernel

theorem fixedLengths_wellFormed : ∀ f ∈ fixedLengths, ∀ e, (f e).wellFormed = true := by
  simp [fixedLengths, Instr.wellFormed]

theorem fixedDistances_wellFormed : ∀ f ∈ fixedDistances, ∀ e, (f e).wellFormed = true := by
  simp [fixedDistances, Instr.wellFormed]

theorem fixedLitLenOf_wellFormed (sym e : Nat) : (fixedLitLenOf sym e).wellFormed = true := by
  unfold fixedLitLenOf
  split_ifs with h₁ h₂
  · have hlen : fixedLiterals.length = 256 := by decide +kernel
    rw [List.getD_eq_getElem _ _ (by omega)]
    exact fixedLiterals_wellFormed _ (List.getElem_mem _)
  · rfl
  · have hlen : fixedLengths.length = 31 := rfl
    rw [List.getD_eq_getElem _ _ (hlen ▸ lengthIndex_lt sym)]
    exact fixedLengths_wellFormed _ (List.getElem_mem _) e

theorem fixedDistanceOf_wellFormed {d : Nat} (hd : d < 30) (e : Nat) : (fixedDistanceOf d e).wellFormed = true := by
  have hlen : fixedDistances.length = 30 := rfl
  rw [fixedDistanceOf, List.getD_eq_getElem _ _ (hlen ▸ hd)]
  exact fixedDistances_wellFormed _ (List.getElem_mem _) e

/-- The index and the extra bits of a length symbol of a dynamic table are in range (30_encoding.md R70). -/
theorem dynLitLenOf_wellFormed {sym e : Nat} (he : e < 2 ^ litLenExtraBits sym) : (dynLitLenOf sym e).wellFormed = true := by
  unfold dynLitLenOf
  split_ifs with h₁ h₂
  · rfl
  · rfl
  · have hidx := lengthIndex_lt sym
    rw [litLenExtraBits, if_neg (by omega)] at he
    have hsym : (BitVec.ofNat 5 (lengthIndex sym)).toNat = lengthIndex sym := Nat.mod_eq_of_lt (by omega)
    have hext : (BitVec.ofNat 5 e).toNat ≤ e := Nat.mod_le _ _
    simp only [Instr.wellFormed, hsym, Bool.and_eq_true, decide_eq_true_eq]
    omega

/-- The symbol and the extra bits of a distance of a dynamic table are in range (R71). -/
theorem dynDistanceOf_wellFormed {d e : Nat} (hd : d < 30) (he : e < 2 ^ distanceExtraBits d) :
    (dynDistanceOf d e).wellFormed = true := by
  have hsym : (BitVec.ofNat 5 d).toNat = d := Nat.mod_eq_of_lt (by omega)
  have hext : (BitVec.ofNat 13 e).toNat ≤ e := Nat.mod_le _ _
  simp only [dynDistanceOf, Instr.wellFormed, hsym, Bool.and_eq_true, decide_eq_true_eq]
  omega

theorem decodeDist_wellFormed (byte : Nat → Option Byte) (len : Nat) (fixed : Bool) (t : Table) (r : Reader) :
    (decodeDist byte len fixed t r).IsWellFormed := by
  unfold decodeDist
  split
  · split
    · show (Instr.distInvalid _).wellFormed = true
      split <;> rfl
    · next hd =>
      refine Read.thenDecode_wellFormed fun e r he => ?_
      cases fixed
      · exact dynDistanceOf_wellFormed (by omega) (readBits_lt he)
      · exact fixedDistanceOf_wellFormed (by omega) e
  · unfold decodeEmptyDistance
    split_ifs
    · rfl
    · rfl
    · trivial
  · trivial

/-- Four whole bytes after byteAlign (R65, R75). -/
theorem fourBytes_wellFormed (byte : Nat → Option Byte) (r : Reader) {f : Byte → Byte → Byte → Byte → Instr}
    (h : ∀ b₀ b₁ b₂ b₃, (f b₀ b₁ b₂ b₃).wellFormed = true) :
    ((readByte byte r.byteAlign).thenDecode [] fun b₀ r => (readByte byte r).thenDecode [] fun b₁ r =>
      (readByte byte r).thenDecode [] fun b₂ r => (readByte byte r).thenDecode [] fun b₃ r =>
        .instr (f b₀ b₁ b₂ b₃) r).IsWellFormed :=
  Read.thenDecode_wellFormed fun b₀ _ _ => Read.thenDecode_wellFormed fun b₁ _ _ =>
    Read.thenDecode_wellFormed fun b₂ _ _ => Read.thenDecode_wellFormed fun b₃ _ _ => h b₀ b₁ b₂ b₃

theorem decode_wellFormed (c : Ctx) (byte : Nat → Option Byte) (len : Nat) (r : Reader) : (decode c byte len r).IsWellFormed := by
  cases c with
  | zhdr =>
    show (decodeZhdr byte len r).IsWellFormed
    unfold decodeZhdr
    split_ifs
    · trivial
    · exact Read.thenDecode_wellFormed fun _ _ _ => Read.thenDecode_wellFormed fun _ _ _ => rfl
  | block => exact Read.thenDecode_wellFormed fun f _ _ => Read.thenDecode_wellFormed fun t _ _ => blockOf_wellFormed f t
  | stored =>
    show (decodeStored byte len r).IsWellFormed
    unfold decodeStored
    split_ifs
    · trivial
    · exact fourBytes_wellFormed byte r fun _ _ _ _ => rfl
  | data => exact Read.thenDecode_wellFormed fun _ _ _ => rfl
  | dyn =>
    exact Read.thenDecode_wellFormed fun _ _ _ => Read.thenDecode_wellFormed fun _ _ _ =>
      Read.thenDecode_wellFormed fun _ _ _ => rfl
  | cll => exact Read.thenDecode_wellFormed fun _ _ _ => rfl
  | cl t =>
    exact Read.thenDecode_wellFormed fun sym _ _ => Read.thenDecode_wellFormed fun e _ _ => clOf_wellFormed sym e
  | litLen fixed t =>
    refine Read.thenDecode_wellFormed fun sym _ _ => Read.thenDecode_wellFormed fun e _ he => ?_
    cases fixed
    · exact dynLitLenOf_wellFormed (readBits_lt he)
    · exact fixedLitLenOf_wellFormed sym e
  | dist fixed t => exact decodeDist_wellFormed byte len fixed t r
  | trailer =>
    show (decodeTrailer byte len r).IsWellFormed
    unfold decodeTrailer
    split_ifs
    · trivial
    · exact fourBytes_wellFormed byte r fun _ _ _ _ => rfl

/-! ## The statements -/

/-- Settles O18: a header's fields are read off its words one after another; a row of the fixed code is coded by its ROM table. -/
theorem fixedWordsRoundTrip : Obligations.FixedWordsRoundTrip := by
  unfold Obligations.FixedWordsRoundTrip
  intro i c h
  show i.ReadsBack c
  cases i with
  | zhdr cmf flg => cases h; exact .of_bytes rfl rfl
  | blockStored f => cases h; exact .of_bits rfl (decodeStream_block (t := 0) (by decide) (by simp [blockOf]))
  | blockFixed f => cases h; exact .of_bits rfl (decodeStream_block (t := 1) (by decide) (by simp [blockOf]))
  | blockDynamic f => cases h; exact .of_bits rfl (decodeStream_block (t := 2) (by decide) (by simp [blockOf]))
  | blockReserved f => cases h; exact .of_bits rfl (decodeStream_block (t := 3) (by decide) (by simp [blockOf]))
  | lenNlen len nlen => cases h; exact .of_bytes rfl (decodeStream_lenNlen len nlen)
  | data b => cases h; exact .of_bytes rfl rfl
  | dyn x y z => cases h; exact .of_bits rfl (decodeStream_dyn x y z)
  | cll l => cases h; exact .of_bits rfl (decodeStream_cll l)
  | trailer w => cases h; exact .of_bytes rfl (decodeStream_trailer w)
  | eob =>
    cases h
    exact .of_bits rfl (decodeStream_fixedLitLen (sym := 256) (e := 0) (by decide) (by decide))
  | _ => exact fixedRow_readsBack h

/-- Settles O19: a code-length symbol has its row's extra bits, a symbol of a dynamic table those its index names. -/
theorem tableCodedWordsRoundTrip : Obligations.TableCodedWordsRoundTrip := by
  unfold Obligations.TableCodedWordsRoundTrip
  intro t i c sym n e L rcode hwf hplace henc hcode
  rw [henc, Encoded.inTable]
  cases i with
  | litDyn v =>
    cases hplace; cases henc
    have hv := v.isLt
    have hd := decodeLitLen_word false (e := 0) hcode (by positivity)
    rw [litLenExtraBits_of_le (by omega)] at hd
    simpa [dynLitLenOf, hv] using hd
  | eobDyn =>
    cases hplace; cases henc
    exact decodeLitLen_word false (e := 0) hcode (by positivity)
  | lenDyn idx x =>
    cases hplace; cases henc
    obtain ⟨hidx, hx⟩ : idx.toNat ≤ 30 ∧ x.toNat < 2 ^ lengthExtraBits idx.toNat := by simpa [Instr.wellFormed] using hwf
    rw [← litLenExtraBits_symbol hidx] at hx ⊢
    exact dynLitLenOf_length hidx x ▸ decodeLitLen_word false hcode hx
  | distDyn d x =>
    cases hplace; cases henc
    obtain ⟨hd, hx⟩ : d.toNat ≤ 29 ∧ x.toNat < 2 ^ distanceExtraBits d.toNat := by simpa [Instr.wellFormed] using hwf
    simpa [dynDistanceOf] using decodeDist_word false hcode (by omega) hx
  | distInvalid d =>
    cases hplace; cases henc
    have hd : 30 ≤ d.toNat := by simpa [Instr.wellFormed] using hwf
    have hword := decodeDist_word_invalid false hcode hd
    rw [distInvalid_symbol hd] at hword
    simpa using hword
  | _ => exact decodeStream_clRow hplace henc hcode

/-- Settles O21: extra bits are read as their own number of bits, and the decoder names only rows that have them. -/
theorem decodedElementsAreWellFormed : Obligations.DecodedElementsAreWellFormed := by
  unfold Obligations.DecodedElementsAreWellFormed
  intro c byte len r r' i h
  have hwf := decode_wellFormed c byte len r
  rw [h] at hwf
  exact hwf

end Sys2Proof
end

section
/-! PROOFS. The host's accesses read back (30_encoding.md R79; 20_memory.md R47, R49): each window's decoder against the encoder. -/

namespace Sys2Proof

open Sys2Proof.Machine

/-! ## The register window -/

/-- A register write is well formed and encoded at its offset (30_encoding.md R79, R175). -/
theorem decodeRegWrite_encodes {off : Nat} (hoff : off < 0x100) (halign : off % 4 = 0) (v : Word) :
    (decodeRegWrite off v).wellFormed = true ∧ encode (decodeRegWrite off v) = .reg off (some v) := by
  unfold decodeRegWrite
  split_ifs with h₀ habort hstart h₄ h₈ hC h₁₀
  · exact ⟨habort, h₀ ▸ rfl⟩
  · exact ⟨by simp only [Instr.wellFormed, habort, hstart]; rfl, h₀ ▸ rfl⟩
  · exact ⟨by simp only [Instr.wellFormed, habort, hstart]; rfl, h₀ ▸ rfl⟩
  · exact ⟨rfl, h₄ ▸ rfl⟩
  · exact ⟨rfl, h₈ ▸ rfl⟩
  · exact ⟨rfl, hC ▸ rfl⟩
  · exact ⟨rfl, h₁₀ ▸ rfl⟩
  · have hword : (BitVec.ofNat 8 off).toNat = off := Nat.mod_eq_of_lt hoff
    have hge : 0x14 ≤ off := by omega
    refine ⟨by simp [Instr.wellFormed, hword, halign, hge], ?_⟩
    show Encoded.reg (BitVec.ofNat 8 off).toNat _ = _
    rw [hword]

/-- What the register window takes is one aligned word, well formed and encoded at its offset (20_memory.md R47). -/
theorem decodeReg_encodes {off bytes : Nat} {wdata : Option Word} {i : Instr} (hoff : off < 0x100)
    (h : decodeReg off bytes wdata = some i) : bytes = 4 ∧ i.wellFormed = true ∧ encode i = .reg off wdata := by
  unfold decodeReg at h
  split_ifs at h with hword
  obtain ⟨hbytes, halign⟩ := hword
  refine ⟨hbytes, ?_⟩
  cases wdata with
  | some v =>
    cases h
    exact decodeRegWrite_encodes hoff halign v
  | none =>
    cases h
    have hnat : (BitVec.ofNat 8 off).toNat = off := Nat.mod_eq_of_lt hoff
    refine ⟨by simp [Instr.wellFormed, hnat, halign], ?_⟩
    show Encoded.reg (BitVec.ofNat 8 off).toNat _ = _
    rw [hnat]

/-- The register window takes a well-formed access to a read-only or reserved register, and reads it back (R175). -/
theorem decodeReg_writeIgnored {off : BitVec 8} {v : Word} (h : (Instr.writeIgnored off v).wellFormed = true) :
    decodeReg off.toNat 4 (some v) = some (.writeIgnored off v) := by
  obtain ⟨halign, hge⟩ : off.toNat % 4 = 0 ∧ 0x14 ≤ off.toNat := by simpa [Instr.wellFormed] using h
  rw [decodeReg, if_pos ⟨rfl, halign⟩, decodeRegWrite]
  simp [show off.toNat ≠ 0 by omega, show off.toNat ≠ 4 by omega, show off.toNat ≠ 8 by omega, show off.toNat ≠ 0xC by omega,
    show off.toNat ≠ 0x10 by omega]

/-- An instruction that is an access on the bus is one of the register window, which reads it back, or one of a memory window. -/
theorem encode_onBus_cases {p : Params} {b : BusAccess} {i : Instr} (h : (encode i).onBus p = some b) (hwf : i.wellFormed = true) :
    (∃ off wdata, off < 0x100 ∧ encode i = .reg off wdata ∧ decodeReg off 4 wdata = some i) ∨
    (∃ a, i = .inAccess a) ∨ ∃ a, i = .outAccess a := by
  cases i with
  | start v =>
    obtain ⟨hstart, habort⟩ : v.getLsbD 0 = true ∧ v.getLsbD 1 = false := by simpa [Instr.wellFormed] using hwf
    exact .inl ⟨_, _, by decide, rfl, by simp only [decodeReg, decodeRegWrite, hstart, habort]; rfl⟩
  | abort v =>
    have habort : v.getLsbD 1 = true := hwf
    exact .inl ⟨_, _, by decide, rfl, by simp only [decodeReg, decodeRegWrite, habort]; rfl⟩
  | config v =>
    obtain ⟨hstart, habort⟩ : v.getLsbD 0 = false ∧ v.getLsbD 1 = false := by simpa [Instr.wellFormed] using hwf
    exact .inl ⟨_, _, by decide, rfl, by simp only [decodeReg, decodeRegWrite, hstart, habort]; rfl⟩
  | clear v => exact .inl ⟨_, _, by decide, rfl, rfl⟩
  | setIndex v => exact .inl ⟨_, _, by decide, rfl, rfl⟩
  | setInLen v => exact .inl ⟨_, _, by decide, rfl, rfl⟩
  | setBufSize v => exact .inl ⟨_, _, by decide, rfl, rfl⟩
  | writeIgnored off v => exact .inl ⟨_, _, off.isLt, rfl, decodeReg_writeIgnored hwf⟩
  | readReg off =>
    have halign : off.toNat % 4 = 0 := by simpa [Instr.wellFormed] using hwf
    exact .inl ⟨_, _, off.isLt, rfl, by simp [decodeReg, halign]⟩
  | inAccess a => exact .inr (.inl ⟨a, rfl⟩)
  | outAccess a => exact .inr (.inr ⟨a, rfl⟩)
  | _ => cases h

/-! ## The memory windows -/

theorem Width.ofBytes_eq_some_iff {n : Nat} {w : Width} : Width.ofBytes n = some w ↔ n = w.bytes := by
  constructor
  · intro h
    unfold Width.ofBytes at h
    split at h <;> cases h <;> rfl
  · rintro rfl
    cases w <;> rfl

theorem Width.bytes_pos (w : Width) : 0 < w.bytes := by cases w <;> decide

theorem MemAccess.legal_iff {size : Nat} {a : MemAccess} :
    a.legal size = true ↔ a.offset % a.width.bytes = 0 ∧ a.offset + a.width.bytes ≤ size := by
  simp [MemAccess.legal]

/-- The decoder of a memory window of `size` bytes answers exactly the accesses R47 allows there. -/
theorem decodeMem_eq_some_iff {size off bytes : Nat} {wdata : Option Word} {a : MemAccess} :
    decodeMem size off bytes wdata = some a ↔
      off = a.offset ∧ bytes = a.width.bytes ∧ wdata = a.wdata ∧ a.legal size = true := by
  unfold decodeMem
  constructor
  · intro h
    split at h
    · next w hw =>
      split_ifs at h with hlegal
      cases h
      exact ⟨rfl, Width.ofBytes_eq_some_iff.1 hw, rfl, hlegal⟩
    · cases h
  · rintro ⟨rfl, hbytes, rfl, hlegal⟩
    rw [Width.ofBytes_eq_some_iff.2 hbytes]
    exact if_pos hlegal

/-! ## The windows on the bus (20_memory.md R49) -/

/-- An access at an offset of the register window. -/
theorem decodeBus_reg {p : Params} {off : Nat} (hoff : off < 0x100) (bytes : Nat) (wdata : Option Word) :
    decodeBus p { addr := p.regBase + off, bytes := bytes, wdata := wdata } = decodeReg off bytes wdata := by
  unfold decodeBus
  rw [if_pos ⟨Nat.le_add_right _ _, Nat.add_lt_add_left hoff _⟩, Nat.add_sub_cancel_left]

/-- An access at an offset of the IN window, which lies outside the register window. -/
theorem decodeBus_in {p : Params} (hp : p.wf) {off : Nat} (hoff : off < p.inMemSize) (bytes : Nat) (wdata : Option Word) :
    decodeBus p { addr := p.inBase + off, bytes := bytes, wdata := wdata } =
      (decodeMem p.inMemSize off bytes wdata).map .inAccess := by
  obtain ⟨-, -, -, -, hreg, -, -⟩ := hp
  unfold decodeBus disjointRanges regWindowSize at *
  rw [if_neg (by dsimp only; omega), if_pos ⟨Nat.le_add_right _ _, Nat.add_lt_add_left hoff _⟩, Nat.add_sub_cancel_left]

/-- An access at an offset of the OUT window, which lies outside the two other windows. -/
theorem decodeBus_out {p : Params} (hp : p.wf) {off : Nat} (hoff : off < p.outMemSize) (bytes : Nat) (wdata : Option Word) :
    decodeBus p { addr := p.outBase + off, bytes := bytes, wdata := wdata } =
      (decodeMem p.outMemSize off bytes wdata).map .outAccess := by
  obtain ⟨-, -, -, -, -, hreg, hin⟩ := hp
  unfold decodeBus disjointRanges regWindowSize at *
  rw [if_neg (by dsimp only; omega), if_neg (by dsimp only; omega), if_pos ⟨Nat.le_add_right _ _, Nat.add_lt_add_left hoff _⟩,
    Nat.add_sub_cancel_left]

/-- What a bus access decodes to is well formed and encoded as that access, inside its window. -/
theorem encode_of_decodeBus {p : Params} {b : BusAccess} {i : Instr} (h : decodeBus p b = some i) :
    i.wellFormed = true ∧ (encode i).onBus p = some b ∧
      (∀ a, i = .inAccess a → a.offset + a.width.bytes ≤ p.inMemSize) ∧
      ∀ a, i = .outAccess a → a.offset + a.width.bytes ≤ p.outMemSize := by
  obtain ⟨addr, bytes, wdata⟩ := b
  unfold decodeBus at h
  split_ifs at h with hreg hin hout
  · have hoff : addr - p.regBase < 0x100 := Nat.sub_lt_left_of_lt_add hreg.1 hreg.2
    obtain ⟨rfl, hwf, henc⟩ := decodeReg_encodes hoff h
    refine ⟨hwf, ?_, ?_, ?_⟩
    · rw [henc, Encoded.onBus, Nat.add_sub_of_le hreg.1]
    · rintro a rfl
      cases henc
    · rintro a rfl
      cases henc
  · obtain ⟨a, ha, rfl⟩ := Option.map_eq_some_iff.1 h
    obtain ⟨hoff, rfl, rfl, hlegal⟩ := decodeMem_eq_some_iff.1 ha
    obtain ⟨halign, hend⟩ := MemAccess.legal_iff.1 hlegal
    refine ⟨by simpa [Instr.wellFormed] using halign, ?_, ?_, nofun⟩
    · show some _ = _
      rw [← hoff, Nat.add_sub_of_le hin.1]
    · rintro _ ⟨⟩
      exact hend
  · obtain ⟨a, ha, rfl⟩ := Option.map_eq_some_iff.1 h
    obtain ⟨hoff, rfl, rfl, hlegal⟩ := decodeMem_eq_some_iff.1 ha
    obtain ⟨halign, hend⟩ := MemAccess.legal_iff.1 hlegal
    refine ⟨by simpa [Instr.wellFormed] using halign, ?_, nofun, ?_⟩
    · show some _ = _
      rw [← hoff, Nat.add_sub_of_le hout.1]
    · rintro _ ⟨⟩
      exact hend

/-! ## The statement -/

/-- Settles O20: the windows are disjoint, so the window an encoded access lies in is the one that decodes it. -/
theorem hostAccessesRoundTrip : Obligations.HostAccessesRoundTrip := by
  unfold Obligations.HostAccessesRoundTrip
  intro p b i hp
  refine ⟨encode_of_decodeBus, ?_⟩
  rintro ⟨hwf, hbus, hin, hout⟩
  rcases encode_onBus_cases hbus hwf with ⟨off, wdata, hoff, henc, hdec⟩ | ⟨a, rfl⟩ | ⟨a, rfl⟩
  · rw [henc] at hbus
    cases hbus
    rw [decodeBus_reg hoff, hdec]
  · cases hbus
    have hend := hin a rfl
    have hlegal := MemAccess.legal_iff.2 ⟨by simpa [Instr.wellFormed] using hwf, hend⟩
    rw [decodeBus_in hp (by have := a.width.bytes_pos; omega), decodeMem_eq_some_iff.2 ⟨rfl, rfl, rfl, hlegal⟩]
    rfl
  · cases hbus
    have hend := hout a rfl
    have hlegal := MemAccess.legal_iff.2 ⟨by simpa [Instr.wellFormed] using hwf, hend⟩
    rw [decodeBus_out hp (by have := a.width.bytes_pos; omega), decodeMem_eq_some_iff.2 ⟨rfl, rfl, rfl, hlegal⟩]
    rfl

end Sys2Proof
end

section
/-! PROOFS. Block headers and dynamic headers (42_block_decoder.md R112, R114): what each of their elements writes. -/

namespace Sys2Proof.Machine

/-! ## The code-length code lengths (30_encoding.md R67) -/

/-- Zeroing entries leaves the others, and the zeroed ones hold 0. -/
theorem zeroClLens_getElem? (ks : List Nat) (v : Vector (BitVec 3) 19) {k : Nat} (hk : k < 19) :
    (zeroClLens ks v)[k]? = if k ∈ ks then some 0 else v[k]? := by
  induction ks generalizing v with
  | nil => simp [zeroClLens]
  | cons x xs ih =>
    rw [zeroClLens, ih, Vector.getElem?_setIfInBounds]
    by_cases hx : k = x
    · simp [← hx, hk]
    · simp [hx, Ne.symm hx]

/-- ORDER names 19 different entries of CLLEN (R67). -/
theorem clOrder_nodup : clOrder.Nodup := by decide

theorem clOrder_getD_lt : ∀ j < 19, clOrder.getD j 19 < 19 := by decide

/-- The entries that ORDER names from number n on. -/
theorem clOrder_getD_mem_drop {j n : Nat} (hj : j < 19) : clOrder.getD j 19 ∈ clOrder.drop n ↔ n ≤ j := by
  have hlen : clOrder.length = 19 := rfl
  rw [List.getD_eq_getElem _ _ (hlen ▸ hj), List.mem_drop_iff_getElem]
  constructor
  · rintro ⟨k, hk, he⟩
    have := (clOrder_nodup.getElem_inj_iff).1 he
    omega
  · exact fun h => ⟨j - n, by omega, by simp [Nat.add_sub_of_le h]⟩

theorem clOrder_getD_inj {j k : Nat} (hj : j < 19) (hk : k < 19) : clOrder.getD j 19 = clOrder.getD k 19 ↔ j = k := by
  have hlen : clOrder.length = 19 := rfl
  rw [List.getD_eq_getElem _ _ (hlen ▸ hj), List.getD_eq_getElem _ _ (hlen ▸ hk), clOrder_nodup.getElem_inj_iff]

theorem exec_cll {s : State} {i : Nat} (h : s.pend = .clLengths i) (l : BitVec 3) :
    exec (.cll l) s = .next ((s.setClLen i l).nextCll i) := by
  show Host.Outcome.next ((s.setClLen s.pend.clNumber l).nextCll s.pend.clNumber) = _
  rw [h, Pending.clNumber]

/-- After a length that is not the last one sent, the next one follows (42_block_decoder.md R114). -/
theorem State.nextCll_of_lt {s : State} {i : Nat} (h : i + 1 < s.hclen.toNat) : s.nextCll i = s.setPend (.clLengths (i + 1)) :=
  if_pos h

/-- After the last length sent the header ends (R114). -/
theorem State.nextCll_of_le {s : State} {i : Nat} (h : s.hclen.toNat ≤ i + 1) :
    s.nextCll i = (s.endDynHeader (i + 1)).goTo .clens := if_neg (Nat.not_lt.2 h)

/-- CLLEN after the last length sent, number i: at each place of ORDER what was there, the length, or 0. -/
theorem zeroClLens_setIfInBounds_getElem? (v : Vector (BitVec 3) 19) (l : BitVec 3) {i j : Nat} (hi : i < 19) (hj : j < 19) :
    (zeroClLens (clOrder.drop (i + 1)) (v.setIfInBounds (clOrder.getD i 19) l))[clOrder.getD j 19]? =
      if i < j then some 0 else if i = j then some l else v[clOrder.getD j 19]? := by
  rw [zeroClLens_getElem? _ _ (clOrder_getD_lt j hj), Vector.getElem?_setIfInBounds]
  simp only [clOrder_getD_mem_drop hj, clOrder_getD_inj hi hj, Nat.succ_le_iff, clOrder_getD_lt i hi, if_true]

/-! ## The statements -/

/-- Settles O35: ORDER names each entry of CLLEN once, so neither the later lengths nor the zeros for those not sent touch an
earlier one. -/
theorem dynamicHeaderElements : Obligations.DynamicHeaderElements := by
  unfold Obligations.DynamicHeaderElements
  refine ⟨fun x y z s => ?_, fun l i s hp hlt _ => ?_, fun l i s hp hlast hle => ?_⟩
  · obtain ⟨hlit, hdist, hclen⟩ := s.setCounts_toNat x y z
    exact ⟨(s.setCounts x y z).setPend (.clLengths 0), rfl, hlit, hdist, hclen, rfl⟩
  · exact (exec_cll hp l).trans (congrArg _ (State.nextCll_of_lt hlt))
  · have hentry {j : Nat} (hj : j < 19) := zeroClLens_setIfInBounds_getElem? s.clLen l (i := i) (by omega) hj
    refine ⟨((s.setClLen i l).endDynHeader (i + 1)).goTo .clens, ?_, fun j hj => ?_, ?_, fun j hij hj => ?_, rfl⟩
    · exact (exec_cll hp l).trans (congrArg _ (State.nextCll_of_le hlast.ge))
    · exact (hentry (by omega)).trans (by rw [if_neg (by omega), if_neg (by omega)])
    · exact (hentry (by omega)).trans (by rw [if_neg (by omega), if_pos rfl])
    · exact (hentry hj).trans (if_pos hij)

/-- Settles O30: each of the four rows is its meaning, field by field. -/
theorem blockTypesSelectTheirState : Obligations.BlockTypesSelectTheirState :=
  fun _ _ => ⟨rfl, rfl, rfl, rfl⟩

end Sys2Proof.Machine
end

section
/-! PROOFS. The bit reader (40_bitreader.md): the bits it answers are the next ones of the stream, and what one refill loop leaves for
readBits and readCodeByTable. -/

namespace Sys2Proof.Machine

/-! ## The stream's fields -/

/-- Bit i of a field is the stream bit i places on; the field has no higher bit (30_encoding.md R60). -/
theorem streamField_testBit (byte : Nat → Byte) (n p i : Nat) :
    (streamField byte p n).testBit i = (decide (i < n) && streamBit byte (p + i)) := by
  induction n generalizing p i with
  | zero => simp [streamField]
  | succ n ih =>
    have hbit : streamField byte p (n + 1) = Nat.bit (streamBit byte p) (streamField byte (p + 1) n) := by
      rw [streamField, Nat.bit_val, Nat.add_comm]
    rw [hbit]
    cases i with
    | zero => simp
    | succ i => simp [Nat.testBit_bit_succ, ih, Nat.add_assoc, Nat.add_comm 1 i]

/-! ## What the accumulator holds -/

/-- A window of the accumulator is the next stream bits as far as they are buffered, with zeros above them (10_state.md R22). -/
theorem Reader.Holds.testBit_window {byte : Nat → Byte} {r : Reader} (h : r.Holds byte) (n i : Nat) :
    (r.buf % 2 ^ n).testBit i = (decide (i < n) && (decide (i < r.cnt) && streamBit byte (r.bitPos + i))) := by
  obtain ⟨-, hlt, hbits⟩ := h
  rw [Nat.testBit_mod_two_pow]
  congr 1
  by_cases hi : i < r.cnt
  · simp [hi, hbits i hi]
  · have hpow : 2 ^ r.cnt ≤ 2 ^ i := Nat.pow_le_pow_right (by omega) (Nat.le_of_not_lt hi)
    simp [hi, Nat.testBit_lt_two_pow (lt_of_lt_of_le hlt hpow)]

/-- The low bits of the accumulator are the next field of the stream (10_state.md R22). -/
theorem Reader.Holds.buf_mod_eq_streamField {byte : Nat → Byte} {r : Reader} (h : r.Holds byte) {n : Nat} (hn : n ≤ r.cnt) :
    r.buf % 2 ^ n = streamField byte r.bitPos n := by
  refine Nat.eq_of_testBit_eq fun i => ?_
  rw [h.testBit_window, streamField_testBit]
  by_cases hi : i < n
  · simp [show i < r.cnt by omega]
  · simp [hi]

/-- The bit position and the buffered bits end where IP stands (10_state.md R21). -/
theorem Reader.Holds.bitPos_add_cnt {byte : Nat → Byte} {r : Reader} (h : r.Holds byte) : r.bitPos + r.cnt = 8 * r.ip :=
  Nat.sub_add_cancel h.1

/-! ## The refill loop of a whole read -/

/-- What the loop leaves at the end of its refills (R91, R92): `need` bits where the input has them, else all of it, and nothing loaded
where `need` bits were there. -/
structure Reader.Filled (byte : Nat → Byte) (len need : Nat) (r r' : Reader) : Prop where
  holds     : r'.Holds byte
  bitPos    : r'.bitPos = r.bitPos
  ip_le     : r'.ip ≤ Nat.max len r.ip
  enough    : need ≤ r'.cnt ∨ r'.ip = Nat.max len r.ip
  cnt_le    : r'.cnt ≤ Nat.max r.cnt (need + 7)
  unchanged : need ≤ r.cnt → r' = r

theorem fillTo_filled (byte : Nat → Byte) (len need : Nat) {r : Reader} (h : r.Holds byte) :
    ∃ r', fillTo (fun a => some (byte a)) len need need r = .ok () r' ∧ Reader.Filled byte len need r r' := by
  obtain ⟨r', e, hholds, hpos, hle, hip, henough, -, hcnt, hsame⟩ := fillTo_ok (b := byte) (fun _ _ => rfl) need need r h
  have hip' : r'.ip ≤ Nat.max len r.ip := hip.trans (max_comm r.ip len).le
  refine ⟨r', e, hholds, hpos, hip', ?_, ?_, hsame⟩
  · exact (henough (by omega)).imp_right fun hlen => le_antisymm hip' (Nat.max_le.2 ⟨hlen, hle⟩)
  · exact le_max_iff.2 (hcnt.imp_right fun hlt => by omega)

/-- The loop gets its bits just where the input has them: BP and BITCNT together give IP. -/
theorem Reader.Filled.need_le_cnt_iff {byte : Nat → Byte} {len need : Nat} {r r' : Reader} (h : Reader.Filled byte len need r r') :
    need ≤ r'.cnt ↔ r.bitPos + need ≤ 8 * Nat.max len r.ip := by
  have hend := h.holds.bitPos_add_cnt
  have hpos := h.bitPos
  have hip := h.ip_le
  rcases h.enough with hneed | htop <;> omega

/-- What readCodeByTable answers after its refills (R92). -/
theorem readCode_of_fillTo {byte : Nat → Option Byte} {len : Nat} {t : Table} {r r' : Reader}
    (e : fillTo byte len t.max.toNat t.max.toNat r = .ok () r') :
    readCode byte len t r =
      if slotLen (t.select r') = 0 then .raise .invalidCode r'
      else if r'.cnt < slotLen (t.select r') then .raise .truncatedInput r'
      else .ok (slotSym (t.select r')) (r'.consume (slotLen (t.select r'))) := by
  simp only [readCode, e]

/-! ## The statements -/

/-- Settles O22: the refill loop gets n bits just where the input has them, and then the low bits of the accumulator are the stream's
next field. -/
theorem readBitsReturnsStreamBits : Obligations.ReadBitsReturnsStreamBits := by
  unfold Obligations.ReadBitsReturnsStreamBits
  intro byte len n r _ h
  obtain ⟨r', e, hfill⟩ := fillTo_filled byte len n h
  refine ⟨fun hfits => ?_, fun hcut => ?_⟩
  · have hn : n ≤ r'.cnt := hfill.need_le_cnt_iff.2 hfits
    obtain ⟨hholds, hpos⟩ := Reader.consume_holds hfill.holds hn
    refine ⟨r'.consume n, ?_, hpos.trans (by rw [hfill.bitPos]), hholds, fun hle => ?_, ?_, hfill.ip_le⟩
    · simp only [readBits, e, if_neg (Nat.not_lt.2 hn), hfill.holds.buf_mod_eq_streamField hn, hfill.bitPos]
    · rw [hfill.unchanged hle]; rfl
    · exact le_max_iff.2 ((le_max_iff.1 hfill.cnt_le).imp (Nat.le_trans (Nat.sub_le _ _)) fun hle => Nat.sub_le_of_le_add (by omega))
  · have hn : r'.cnt < n := Nat.lt_of_not_le fun hle => absurd (hfill.need_le_cnt_iff.1 hle) (by omega)
    refine ⟨r', ?_, hfill.bitPos, hfill.holds, hfill.enough.resolve_left (by omega), hn⟩
    simp only [readBits, e, if_pos hn]

/-- Settles O23: the window is the low T.max bits of the refilled accumulator, whose bits past the buffered ones are 0. -/
theorem readCodeConsumesItsCode : Obligations.ReadCodeConsumesItsCode := by
  unfold Obligations.ReadCodeConsumesItsCode
  intro byte len t r h
  obtain ⟨r₁, e, hfill⟩ := fillTo_filled byte len t.max.toNat h
  refine ⟨r₁, r₁.buf % 2 ^ t.max.toNat, hfill.holds, hfill.bitPos, ?_, hfill.unchanged, hfill.cnt_le, hfill.ip_le, fun i => ?_, ?_⟩
  · exact hfill.enough.imp_right fun htop => (Nat.le_max_left len r.ip).trans htop.ge
  · rw [← hfill.bitPos, hfill.holds.testBit_window]
  · exact readCode_of_fillTo e

end Sys2Proof.Machine
end


section
/-! PROOFS. The table builder (41_huffman_builder.md): the two scans, what the slots of a built table hold, and, where the lengths are
not oversubscribed, that each symbol keeps the slots of its code. -/

namespace Sys2Proof.Machine

/-! ## Stage 1: the longest and the shortest length (R100) -/

theorem maxLength_append_singleton (ls : List Nat) (l : Nat) : maxLength (ls ++ [l]) = max (maxLength ls) l := by
  simp [maxLength, List.foldl_append]

theorem le_maxLength_of_mem {ls : List Nat} {x : Nat} (h : x ∈ ls) : x ≤ maxLength ls := by
  induction ls using List.reverseRecOn with
  | nil => cases h
  | append_singleton ls l ih =>
    rw [maxLength_append_singleton]
    rcases List.mem_append.1 h with hmem | hlast
    · exact le_max_of_le_left (ih hmem)
    · exact le_max_of_le_right (List.mem_singleton.1 hlast).le

theorem maxLength_le {ls : List Nat} {b : Nat} (h : ∀ x ∈ ls, x ≤ b) : maxLength ls ≤ b := by
  induction ls using List.reverseRecOn with
  | nil => exact Nat.zero_le b
  | append_singleton ls l ih =>
    rw [maxLength_append_singleton]
    exact max_le (ih fun x hx => h x (by simp [hx])) (h l (by simp))

theorem minLength_append_singleton (ls : List Nat) (l : Nat) :
    minLength (ls ++ [l]) = if l = 0 then minLength ls else if minLength ls = 0 then l else min (minLength ls) l :=
  List.foldl_append

theorem minLength_eq_zero_iff (ls : List Nat) : minLength ls = 0 ↔ ∀ x ∈ ls, x = 0 := by
  induction ls using List.reverseRecOn with
  | nil => simp [minLength]
  | append_singleton ls l ih =>
    rw [minLength_append_singleton]
    simp only [List.forall_mem_append, List.forall_mem_singleton, ← ih]
    split_ifs <;> omega

theorem minLength_mem {ls : List Nat} (h : minLength ls ≠ 0) : minLength ls ∈ ls := by
  induction ls using List.reverseRecOn with
  | nil => exact absurd rfl h
  | append_singleton ls l ih =>
    rw [minLength_append_singleton] at h ⊢
    rw [List.mem_append, List.mem_singleton]
    split_ifs at h ⊢ with hl hzero
    · exact .inl (ih h)
    · exact .inr rfl
    · rcases min_choice (minLength ls) l with hmin | hmin
      · exact .inl (by rw [hmin]; exact ih hzero)
      · exact .inr hmin

theorem minLength_le_of_mem {ls : List Nat} {x : Nat} (h : x ∈ ls) (hx : x ≠ 0) : minLength ls ≤ x := by
  induction ls using List.reverseRecOn with
  | nil => cases h
  | append_singleton ls l ih =>
    rw [minLength_append_singleton]
    rcases List.mem_append.1 h with hmem | hlast
    · have := ih hmem
      have : minLength ls = 0 → x = 0 := fun hzero => (minLength_eq_zero_iff ls).1 hzero x hmem
      split_ifs <;> omega
    · have := List.mem_singleton.1 hlast
      split_ifs <;> omega

section Scans
variable {lengths : List Nat} (h : ∀ x ∈ lengths, x ≤ 15)
include h

theorem buildTable_max_toNat : (buildTable lengths).max.toNat = maxLength lengths :=
  (BitVec.toNat_ofNat ..).trans (Nat.mod_eq_of_lt (Nat.lt_succ_of_le (maxLength_le h)))

theorem buildTable_min_toNat : (buildTable lengths).min.toNat = minLength lengths := by
  refine (BitVec.toNat_ofNat ..).trans (Nat.mod_eq_of_lt (Nat.lt_succ_of_le ?_))
  by_cases hzero : minLength lengths = 0
  · omega
  · exact h _ (minLength_mem hzero)

end Scans

/-! ## What a built slot can hold (R101, R103) -/

theorem fillSlots_getElem? (stride r : Nat) (w : Word) (n : Nat) (slots : List Word) (j : Nat) :
    (fillSlots stride r w n slots)[j]? = slots[j]?.map fun x => if (n + j) % stride = r then w else x := by
  induction slots generalizing n j with
  | nil => rfl
  | cons x xs ih =>
    cases j with
    | zero => rfl
    | succ j => rw [fillSlots, List.getElem?_cons_succ, List.getElem?_cons_succ, ih, Nat.add_right_comm, Nat.add_assoc]

@[simp] theorem fillSlots_length (stride r : Nat) (w : Word) (n : Nat) (slots : List Word) :
    (fillSlots stride r w n slots).length = slots.length := by
  induction slots generalizing n with
  | nil => rfl
  | cons x xs ih => simp [fillSlots, ih]

theorem mem_fillSlots {stride r : Nat} {w x : Word} {n : Nat} {slots : List Word} (h : x ∈ fillSlots stride r w n slots) :
    x = w ∨ x ∈ slots := by
  obtain ⟨j, hj⟩ := List.mem_iff_getElem?.1 h
  rw [fillSlots_getElem?, Option.map_eq_some_iff] at hj
  obtain ⟨y, hy, rfl⟩ := hj
  split_ifs
  · exact .inl rfl
  · exact .inr (List.mem_of_getElem? hy)

@[simp] theorem assignLength_length (bl i : Nat) (ls : List Nat) (code : Nat) (slots : List Word) :
    (assignLength bl i ls code slots).2.length = slots.length := by
  induction ls generalizing i code slots with
  | nil => rfl
  | cons l ls ih => rw [assignLength]; split_ifs <;> simp [ih]

@[simp] theorem assignLengths_length (lengths : List Nat) (n bl code : Nat) (slots : List Word) :
    (assignLengths lengths n bl code slots).length = slots.length := by
  induction n generalizing bl code slots with
  | zero => rfl
  | succ n ih => simp [assignLengths, ih]

@[simp] theorem buildTable_slots_length (lengths : List Nat) : (buildTable lengths).slots.length = 2 ^ maxLength lengths := by
  simp [buildTable]

theorem mem_assignLength {bl i : Nat} {ls : List Nat} {code : Nat} {slots : List Word} {w : Word}
    (h : w ∈ (assignLength bl i ls code slots).2) : w ∈ slots ∨ ∃ k, ls[k]? = some bl ∧ w = slotWord bl (i + k) := by
  induction ls generalizing i code slots with
  | nil => exact .inl h
  | cons l ls ih =>
    have later : (∃ k, ls[k]? = some bl ∧ w = slotWord bl (i + 1 + k)) →
        ∃ k, (l :: ls)[k]? = some bl ∧ w = slotWord bl (i + k) := fun ⟨k, hk, hw⟩ => ⟨k + 1, hk, by rw [hw]; congr 1; omega⟩
    rw [assignLength] at h
    split_ifs at h with hl
    · rcases ih h with hmem | hused
      · exact (mem_fillSlots hmem).symm.imp_right fun hw => ⟨0, by simp [hl], hw⟩
      · exact .inr (later hused)
    · exact (ih h).imp_right later

theorem mem_assignLengths {lengths : List Nat} {n bl code : Nat} {slots : List Word} {w : Word} (hbl : 1 ≤ bl)
    (h : w ∈ assignLengths lengths n bl code slots) :
    w ∈ slots ∨ ∃ i l, lengths[i]? = some l ∧ 1 ≤ l ∧ w = slotWord l i := by
  induction n generalizing bl code slots with
  | zero => exact .inl h
  | succ n ih =>
    rcases ih (by omega) h with hmem | hused
    · exact (mem_assignLength hmem).imp_right fun ⟨i, hi, hw⟩ => ⟨i, bl, hi, hbl, by rw [hw, Nat.zero_add]⟩
    · exact .inr hused

/-- Settles O25: the scans are folds that keep the extremes, and every write of the builder puts a used symbol's word. -/
theorem builtSlotsAreEmptyOrUsed : Obligations.BuiltSlotsAreEmptyOrUsed := by
  unfold Obligations.BuiltSlotsAreEmptyOrUsed
  intro lengths h
  have hmin := buildTable_min_toNat h
  refine ⟨buildTable_max_toNat h, fun hall => ?_, fun ⟨l, hl, hne⟩ => ?_, ?_, fun w hw => ?_⟩
  · exact BitVec.eq_of_toNat_eq (hmin.trans ((minLength_eq_zero_iff lengths).2 hall))
  · have hused : minLength lengths ≠ 0 := fun hzero => hne ((minLength_eq_zero_iff lengths).1 hzero l hl)
    rw [hmin]
    exact ⟨minLength_mem hused, fun hzero => hused (by rw [← hmin, hzero]; rfl), fun x hx => minLength_le_of_mem hx⟩
  · rw [buildTable_slots_length, buildTable_max_toNat h]
  · exact (mem_assignLengths le_rfl hw).imp_left List.eq_of_mem_replicate

/-! ## The canonical codes fit their lengths (R102)

The unit of code space is the share of a 15-bit code, so a code of length l takes 2^(15 - l). -/

/-- The code space that the symbols of length l and above take. -/
def codeSpaceFrom (lengths : List Nat) (l : Nat) : Nat := (lengths.map fun x => if l ≤ x then 2 ^ (15 - x) else 0).sum

theorem codeSpaceFrom_one_le {lengths : List Nat} (h : notOversubscribed lengths) : codeSpaceFrom lengths 1 ≤ 2 ^ 15 := by
  refine le_of_eq_of_le (congrArg List.sum (List.map_congr_left fun x _ => ?_)) h
  cases x <;> simp

theorem codeSpaceFrom_eq (lengths : List Nat) (l : Nat) :
    codeSpaceFrom lengths l = lengths.count l * 2 ^ (15 - l) + codeSpaceFrom lengths (l + 1) := by
  induction lengths with
  | nil => simp [codeSpaceFrom]
  | cons x xs ih =>
    simp only [codeSpaceFrom, List.map_cons, List.sum_cons, List.count_cons, beq_iff_eq] at ih ⊢
    rcases Nat.lt_trichotomy x l with hlt | rfl | hgt
    · simp [ih, show ¬ l ≤ x by omega, show x ≠ l by omega, show ¬ l + 1 ≤ x by omega]
    · simp [ih]; ring
    · simp [ih, show l ≤ x by omega, show x ≠ l by omega, show l + 1 ≤ x by omega]; omega

theorem firstCode_succ {lengths : List Nat} {l : Nat} (hl : 1 ≤ l) :
    firstCode lengths (l + 1) = 2 * (firstCode lengths l + lengths.count l) := by
  rw [firstCode, if_neg (by omega)]

/-- The codes below the first of length l take just the space of the shorter lengths. -/
theorem firstCode_mul_add_codeSpaceFrom (lengths : List Nat) {l : Nat} (hpos : 1 ≤ l) (hle : l ≤ 15) :
    firstCode lengths l * 2 ^ (15 - l) + codeSpaceFrom lengths l = codeSpaceFrom lengths 1 := by
  induction l, hpos using Nat.le_induction with
  | base => simp [firstCode]
  | succ l hpos ih =>
    rw [← ih (by omega), codeSpaceFrom_eq lengths l, firstCode_succ hpos, show 15 - l = 15 - (l + 1) + 1 by omega, Nat.pow_succ]
    ring

theorem firstCode_add_count_le {lengths : List Nat} (h : notOversubscribed lengths) {l : Nat} (hpos : 1 ≤ l) (hle : l ≤ 15) :
    firstCode lengths l + lengths.count l ≤ 2 ^ l := by
  have hspace : (firstCode lengths l + lengths.count l) * 2 ^ (15 - l) ≤ 2 ^ l * 2 ^ (15 - l) := by
    calc (firstCode lengths l + lengths.count l) * 2 ^ (15 - l)
        ≤ firstCode lengths l * 2 ^ (15 - l) + codeSpaceFrom lengths l := by rw [codeSpaceFrom_eq]; ring_nf; omega
      _ ≤ 2 ^ 15 := (firstCode_mul_add_codeSpaceFrom lengths hpos hle).trans_le (codeSpaceFrom_one_le h)
      _ = 2 ^ l * 2 ^ (15 - l) := by rw [← Nat.pow_add, Nat.add_sub_cancel' hle]
  exact Nat.le_of_mul_le_mul_right hspace (by positivity)

/-- A symbol of a length comes after fewer symbols of that length than there are. -/
theorem count_take_lt_count {lengths : List Nat} {i l : Nat} (hi : lengths[i]? = some l) :
    (lengths.take i).count l < lengths.count l := by
  have hsplit := congrArg (List.count l) (List.take_append_drop i lengths)
  rw [List.count_append] at hsplit
  have hmem : 0 < (lengths.drop i).count l :=
    List.count_pos_iff.2 (List.mem_of_getElem? (i := 0) (by rw [List.getElem?_drop]; exact hi))
  omega

theorem canonicalCode_eq {lengths : List Nat} {i l : Nat} (hi : lengths[i]? = some l) :
    canonicalCode lengths i = firstCode lengths l + (lengths.take i).count l := by
  rw [canonicalCode, List.getD_eq_getElem?_getD, hi, Option.getD_some]

theorem canonicalCode_lt_firstCode_add_count {lengths : List Nat} {i l : Nat} (hi : lengths[i]? = some l) :
    canonicalCode lengths i < firstCode lengths l + lengths.count l := by
  rw [canonicalCode_eq hi]
  exact Nat.add_lt_add_left (count_take_lt_count hi) _

/-! ## The slots of a code (R102, R103)

The codes rise as the builder goes on, and a code falls on the windows whose first bits, reversed, are the code. So a window whose first
bits are already below the next code is never written again: no code begins another. -/

/-- A fill for a code writes a window that begins with the code. -/
theorem fillSlots_code_same {bl code j : Nat} {w : Word} {slots : List Word} (hj : j < slots.length) (h : revBits bl j = code) :
    (fillSlots (2 ^ bl) (revBits bl code) w 0 slots)[j]? = some w := by
  have hwin : j % 2 ^ bl = revBits bl code := by rw [← h, revBits_revBits]
  rw [fillSlots_getElem?, List.getElem?_eq_getElem hj, Option.map_some, Nat.zero_add, if_pos hwin]

/-- A fill for a code keeps a window that begins with another code. -/
theorem fillSlots_code_other {bl code j : Nat} (w : Word) (slots : List Word) (hcode : code < 2 ^ bl) (h : revBits bl j ≠ code) :
    (fillSlots (2 ^ bl) (revBits bl code) w 0 slots)[j]? = slots[j]? := by
  have hwin : j % 2 ^ bl ≠ revBits bl code := fun hmod => h (revBits_of_mod_eq hcode hmod)
  simp [fillSlots_getElem?, hwin]

theorem assignLength_fst (bl i : Nat) (ls : List Nat) (code : Nat) (slots : List Word) :
    (assignLength bl i ls code slots).1 = code + ls.count bl := by
  induction ls generalizing i code slots with
  | nil => rfl
  | cons l ls ih =>
    rw [assignLength]
    split_ifs with hl
    · rw [ih, hl, List.count_cons_self]; omega
    · rw [ih, List.count_cons_of_ne hl]

/-- The codes of one length keep a window that begins with a lower code of that length. -/
theorem assignLength_of_lt {bl j code : Nat} {ls : List Nat} (i : Nat) (slots : List Word) (hfit : code + ls.count bl ≤ 2 ^ bl)
    (h : revBits bl j < code) : (assignLength bl i ls code slots).2[j]? = slots[j]? := by
  induction ls generalizing i code slots with
  | nil => rfl
  | cons l ls ih =>
    rw [assignLength]
    split_ifs with hl
    · rw [hl, List.count_cons_self] at hfit
      rw [ih _ _ (by omega) (by omega), fillSlots_code_other _ _ (by omega) h.ne]
    · rw [List.count_cons_of_ne hl] at hfit
      exact ih _ _ hfit h

/-- After the codes of one length, a window that begins with a symbol's code holds the symbol's word. -/
theorem assignLength_selects {bl j code k : Nat} {ls : List Nat} (i : Nat) (slots : List Word) (hj : j < slots.length)
    (hfit : code + ls.count bl ≤ 2 ^ bl) (hk : ls[k]? = some bl) (h : revBits bl j = code + (ls.take k).count bl) :
    (assignLength bl i ls code slots).2[j]? = some (slotWord bl (i + k)) := by
  induction ls generalizing i code slots k with
  | nil => cases hk
  | cons l ls ih =>
    rw [assignLength]
    cases k with
    | zero =>
      have hl : l = bl := by simpa using hk
      rw [hl, List.count_cons_self] at hfit
      rw [if_pos hl, assignLength_of_lt _ _ (by omega) (by rw [h]; simp), fillSlots_code_same hj (by simpa using h), Nat.add_zero]
    | succ k =>
      rw [List.getElem?_cons_succ] at hk
      rw [show i + (k + 1) = i + 1 + k by omega]
      rw [List.take_succ_cons] at h
      split_ifs with hl
      · rw [hl, List.count_cons_self] at hfit h
        exact ih _ _ (by simpa using hj) (by omega) hk (by omega)
      · rw [List.count_cons_of_ne hl] at hfit h
        exact ih _ _ hj hfit hk h

/-- From the first code of a length the builder goes to the first code of the next length. -/
theorem assignLengths_firstCode_succ (lengths : List Nat) (n : Nat) {bl : Nat} (hbl : 1 ≤ bl) (slots : List Word) :
    assignLengths lengths (n + 1) bl (firstCode lengths bl) slots =
      assignLengths lengths n (bl + 1) (firstCode lengths (bl + 1)) (assignLength bl 0 lengths (firstCode lengths bl) slots).2 := by
  rw [assignLengths, assignLength_fst, firstCode_succ hbl, Nat.shiftLeft_eq, Nat.pow_one, Nat.mul_comm]

/-- A window that begins with a code below the end of its length is below the first code of the next length. -/
theorem revBits_succ_lt_firstCode {lengths : List Nat} {bl j : Nat} (hbl : 1 ≤ bl)
    (h : revBits bl j < firstCode lengths bl + lengths.count bl) : revBits (bl + 1) j < firstCode lengths (bl + 1) := by
  rw [revBits_succ, firstCode_succ hbl]
  omega

/-- The lengths from one on keep a window that begins with a lower code of that length. -/
theorem assignLengths_of_lt {lengths : List Nat} (hno : notOversubscribed lengths) {n bl j : Nat} (slots : List Word) (hbl : 1 ≤ bl)
    (hn : bl + n ≤ 16) (h : revBits bl j < firstCode lengths bl) :
    (assignLengths lengths n bl (firstCode lengths bl) slots)[j]? = slots[j]? := by
  induction n generalizing bl slots with
  | zero => rfl
  | succ n ih =>
    rw [assignLengths_firstCode_succ _ _ hbl, ih _ (by omega) (by omega) (revBits_succ_lt_firstCode hbl (by omega)),
      assignLength_of_lt _ _ (firstCode_add_count_le hno hbl (by omega)) h]

/-- After all the lengths, a window that begins with a symbol's canonical code holds the symbol's word. -/
theorem assignLengths_selects {lengths : List Nat} (hno : notOversubscribed lengths) {n bl i l j : Nat} (slots : List Word)
    (hj : j < slots.length) (hi : lengths[i]? = some l) (hbl : 1 ≤ bl) (hle : bl ≤ l) (hlt : l < bl + n) (hn : bl + n ≤ 16)
    (h : revBits l j = canonicalCode lengths i) :
    (assignLengths lengths n bl (firstCode lengths bl) slots)[j]? = some (slotWord l i) := by
  induction n generalizing bl slots with
  | zero => omega
  | succ n ih =>
    rw [assignLengths_firstCode_succ _ _ hbl]
    rcases hle.eq_or_lt with rfl | hlater
    · have hend := h.trans_lt (canonicalCode_lt_firstCode_add_count hi)
      rw [assignLengths_of_lt hno _ (by omega) (by omega) (revBits_succ_lt_firstCode hbl hend),
        assignLength_selects 0 _ hj (firstCode_add_count_le hno hbl (by omega)) hi (h.trans (canonicalCode_eq hi)), Nat.zero_add]
    · exact ih _ (by simpa using hj) (by omega) hlater (by omega) (by omega)

/-- Settles O26: the codes of a set that is not oversubscribed fit their lengths and rise, so no later code takes a symbol's slots. -/
theorem canonicalCodesAreDecoded : Obligations.CanonicalCodesAreDecoded := by
  unfold Obligations.CanonicalCodesAreDecoded
  intro lengths i l hlen hmax hno hi hpos
  have hlmax : l ≤ maxLength lengths := le_maxLength_of_mem (List.mem_of_getElem? hi)
  have hmax15 : maxLength lengths ≤ 15 := maxLength_le hmax
  have hcode : canonicalCode lengths i < 2 ^ l :=
    (canonicalCode_lt_firstCode_add_count hi).trans_le (firstCode_add_count_le hno hpos (by omega))
  have hi16 : i < 2 ^ 16 := (List.getElem?_eq_some_iff.1 hi).1.trans_le hlen
  rw [Table.codes, buildTable_max_toNat hmax]
  refine ⟨hcode, hpos, hlmax, hi16, Laws.EncodingFits.revBits_lt _ _, fun j hj hmod => ?_⟩
  have hslot := assignLengths_selects hno (n := maxLength lengths) (List.replicate (2 ^ maxLength lengths) 0) (by simpa using hj) hi
    le_rfl hpos (by omega) (by omega) (revBits_of_mod_eq hcode hmod)
  exact (List.getD_eq_getElem?_getD ..).trans (congrArg (Option.getD · 0) hslot)

/-! ## The ROM tables and the degenerate sets (R104, R105, R106) -/

/-- Two tables of full size agree when every window begins with a code that both give to one symbol. -/
theorem Table.eq_of_codes {t u : Table} (hmax : t.max = u.max) (hmin : t.min = u.min) (ht : t.slots.length = 2 ^ t.max.toNat)
    (hu : u.slots.length = 2 ^ u.max.toNat)
    (h : ∀ j < 2 ^ u.max.toNat, ∃ sym L rcode, j % 2 ^ L = rcode ∧ t.codes sym L rcode ∧ u.codes sym L rcode) : t = u := by
  have hslot : ∀ j, t.slot j = u.slot j := fun j => by
    by_cases hj : j < 2 ^ u.max.toNat
    · obtain ⟨sym, L, rcode, hwin, ⟨-, -, -, -, htj⟩, ⟨-, -, -, -, huj⟩⟩ := h j hj
      rw [htj j (hmax ▸ hj) hwin, huj j hj hwin]
    · rw [Table.slot, Table.slot, List.getD_eq_default _ _ (by rw [ht, hmax]; omega), List.getD_eq_default _ _ (by omega)]
  have hslots : t.slots = u.slots := by
    refine List.ext_getElem (by rw [ht, hu, hmax]) fun j htj huj => ?_
    have hj := hslot j
    rwa [Table.slot, Table.slot, List.getD_eq_getElem _ _ htj, List.getD_eq_getElem _ _ huj] at hj
  cases t; cases u
  simp only [Table.mk.injEq]
  exact ⟨hmax, hmin, hslots⟩

theorem fixedLitLenLengths_getElem? {sym : Nat} (h : sym < 288) : fixedLitLenLengths[sym]? = some (fixedLitLenCode sym).1 := by
  unfold fixedLitLenLengths fixedLitLenCode
  simp only [List.getElem?_append, List.length_append, List.length_replicate, List.getElem?_replicate]
  grind

theorem count_take_fixedLitLenLengths (i l : Nat) : (fixedLitLenLengths.take i).count l =
    (if 8 = l then min i 144 else 0) + (if 9 = l then min (i - 144) 112 else 0) + (if 7 = l then min (i - 256) 24 else 0) +
      (if 8 = l then min (i - 280) 8 else 0) := by
  simp only [fixedLitLenLengths, List.take_append, List.take_replicate, List.count_append, List.count_replicate, beq_iff_eq,
    List.length_append, List.length_replicate]

/-- The canonical assignment gives the fixed code of R73. -/
theorem canonicalCode_fixedLitLenLengths {sym : Nat} (h : sym < 288) :
    canonicalCode fixedLitLenLengths sym = (fixedLitLenCode sym).2 := by
  have h7 : firstCode fixedLitLenLengths 7 = 0 := by decide +kernel
  have h8 : firstCode fixedLitLenLengths 8 = 0x30 := by decide +kernel
  have h9 : firstCode fixedLitLenLengths 9 = 0x190 := by decide +kernel
  rw [canonicalCode_eq (fixedLitLenLengths_getElem? h), count_take_fixedLitLenLengths]
  unfold fixedLitLenCode
  grind

/-- The fixed code is complete: every window begins with the code of a symbol (R105). -/
theorem exists_fixedLitLenCode_of_window (j : Nat) :
    ∃ sym < 288, revBits (fixedLitLenCode sym).1 j = (fixedLitLenCode sym).2 := by
  have h7 : revBits 7 j = revBits 8 j / 2 := revBits_eq_div_two 7 j
  have h8 : revBits 8 j = revBits 9 j / 2 := revBits_eq_div_two 8 j
  have h9 : revBits 9 j < 2 ^ 9 := Laws.EncodingFits.revBits_lt 9 j
  by_cases hlow : revBits 7 j ≤ 23
  · exact ⟨256 + revBits 7 j, by omega, by grind [fixedLitLenCode]⟩
  by_cases hlit : revBits 8 j ≤ 0xBF
  · exact ⟨revBits 8 j - 0x30, by omega, by grind [fixedLitLenCode]⟩
  by_cases hlen : revBits 8 j ≤ 0xC7
  · exact ⟨280 + revBits 8 j - 0xC0, by omega, by grind [fixedLitLenCode]⟩
  · exact ⟨144 + revBits 9 j - 0x190, by omega, by grind [fixedLitLenCode]⟩

/-- The fixed code is canonical and complete, so its built table is FLIT (R105). -/
theorem buildTable_fixedLitLenLengths : buildTable fixedLitLenLengths = flit := by
  have h15 : ∀ x ∈ fixedLitLenLengths, x ≤ 15 := by decide +kernel
  have hno : notOversubscribed fixedLitLenLengths := by unfold notOversubscribed; decide +kernel
  have hsize : (buildTable fixedLitLenLengths).slots.length = 2 ^ (buildTable fixedLitLenLengths).max.toNat := by
    rw [buildTable_slots_length, buildTable_max_toNat h15]
  refine Table.eq_of_codes (by decide +kernel) (by decide +kernel) hsize (by decide +kernel) fun j _ => ?_
  obtain ⟨sym, hsym, hrev⟩ := exists_fixedLitLenCode_of_window j
  have hlen := fixedLitLenLengths_getElem? hsym
  have hflit := flit_codes hsym
  refine ⟨sym, _, _, ?_, ?_, hflit⟩
  · rw [← hrev, revBits_revBits]
  · rw [← canonicalCode_fixedLitLenLengths hsym]
    exact (canonicalCodesAreDecoded _ sym _ (by decide +kernel) h15 hno hlen hflit.1).2

theorem buildTable_fixedDistanceLengths : buildTable fixedDistanceLengths = fdist := by decide +kernel

/-- Settles O24: every table is small enough to build. -/
theorem fixedAndDegenerateTables : Obligations.FixedAndDegenerateTables := by
  unfold Obligations.FixedAndDegenerateTables
  exact ⟨buildTable_fixedLitLenLengths, buildTable_fixedDistanceLengths, by decide +kernel⟩

end Sys2Proof.Machine
end

section
/-! PROOFS. What a running engine reads (42_block_decoder.md): where the reader stands in the stream, the next field or the next whole
bytes from there, and the state its registers are written back to. -/

namespace Sys2Proof.Machine

/-! ## Where the reader stands -/

/-- The reader stands at bit position p of an input that can be read up to byte `top`: what it buffers, at most 22 bits, is the stream
from there on (10_state.md R21, R22, R33). -/
structure Reader.StandsAt (b : Nat → Byte) (len top p : Nat) (r : Reader) : Prop where
  holds     : r.Holds b
  cnt_le    : r.cnt ≤ 22
  top_eq    : Nat.max len r.ip = top
  bitPos_eq : r.bitPos = p

theorem Reader.StandsAt.ip_le {b : Nat → Byte} {len top p : Nat} {r : Reader} (h : r.StandsAt b len top p) : r.ip ≤ top :=
  h.top_eq ▸ Nat.le_max_right _ _

/-- A running decode stands at BP, and can read to the end of the stream. -/
theorem State.Decoding.standsAt {s : State} (h : s.Decoding) :
    s.reader.StandsAt s.inByte s.inLen.toNat (Nat.max s.inLen.toNat s.ip.toNat) s.reader.bitPos := by
  obtain ⟨hholds, hcnt, -⟩ := h.reader_ok
  exact ⟨hholds, hcnt, rfl, rfl⟩

theorem State.max_inLen_ip_lt (s : State) : Nat.max s.inLen.toNat s.ip.toNat < 2 ^ 32 := Nat.max_lt.2 ⟨s.inLen.isLt, s.ip.isLt⟩

/-- A reader that stands in the stream fits the registers (10_state.md R21, R22). -/
theorem State.reader_withReader_of_standsAt (s : State) {b : Nat → Byte} {len top p : Nat} {r : Reader}
    (h : r.StandsAt b len top p) (htop : top < 2 ^ 32) : (s.withReader r).reader = r := by
  obtain ⟨-, hbuf, -⟩ := h.holds
  have hcnt := h.cnt_le
  exact s.reader_withReader (lt_of_le_of_lt h.ip_le htop) (by omega)
    (lt_of_lt_of_le hbuf (Nat.pow_le_pow_right (by decide) (by omega)))

/-! ## The next field -/

theorem streamField_lt (b : Nat → Byte) (p n : Nat) : streamField b p n < 2 ^ n :=
  Nat.lt_pow_two_of_testBit _ fun i hi => by simp [streamField_testBit, Nat.not_lt.2 hi]

section Input

variable {byte : Nat → Option Byte} {b : Nat → Byte} {len top p : Nat} {r : Reader}

/-- The refills of a read leave the reader where it stands, with the bits of the read just where the input has them. -/
theorem fillTo_standsAt (hb : ∀ a, a < len → byte a = some (b a)) {n : Nat} (hn : n ≤ 15) (h : r.StandsAt b len top p) :
    ∃ r', fillTo byte len n n r = .ok () r' ∧ r'.StandsAt b len top p ∧ (n ≤ r'.cnt ↔ p + n ≤ 8 * top) := by
  obtain ⟨hholds, hcnt, htop, hpos⟩ := h
  obtain ⟨r', e, hholds', hpos', hip, hip', henough, -, hcnt', -⟩ := fillTo_ok hb n n r hholds
  have htop' : Nat.max len r'.ip = top := by simp only [Nat.max_def] at *; split_ifs at * <;> omega
  have hend := hholds'.bitPos_add_cnt
  have hlen : r'.ip ≤ top := htop' ▸ Nat.le_max_right _ _
  refine ⟨r', e, ⟨hholds', by omega, htop', hpos'.trans hpos⟩, ⟨fun hle => by omega, fun hle => ?_⟩⟩
  rcases henough (by omega) with hle' | hout
  · exact hle'
  · have : r'.ip = top := htop' ▸ (Nat.max_eq_right hout).symm
    omega

/-- Where the input has n more bits they are read (40_bitreader.md R91). -/
theorem readBits_of_le (hb : ∀ a, a < len → byte a = some (b a)) {n : Nat} (hn : n ≤ 15) (h : r.StandsAt b len top p)
    (hfit : p + n ≤ 8 * top) :
    ∃ r', readBits byte len n r = .ok (streamField b p n) r' ∧ r'.StandsAt b len top (p + n) := by
  obtain ⟨r₁, e, ⟨hholds, hcnt, htop, hpos⟩, hiff⟩ := fillTo_standsAt hb hn h
  have hle : n ≤ r₁.cnt := hiff.2 hfit
  obtain ⟨hholds', hpos'⟩ := Reader.consume_holds hholds hle
  have hval := hholds.buf_mod_eq_streamField hle
  refine ⟨r₁.consume n, ?_, hholds', le_trans (Nat.sub_le _ _) hcnt, htop, by rw [hpos', hpos]⟩
  simp only [readBits, e, if_neg (Nat.not_lt.2 hle), hval, hpos]

/-- Where it has not, the read raises TruncatedInput and consumes none (R91). -/
theorem readBits_of_lt (hb : ∀ a, a < len → byte a = some (b a)) {n : Nat} (hn : n ≤ 15) (h : r.StandsAt b len top p)
    (hcut : 8 * top < p + n) :
    ∃ r', readBits byte len n r = .raise .truncatedInput r' ∧ r'.StandsAt b len top p := by
  obtain ⟨r₁, e, hstands, hiff⟩ := fillTo_standsAt hb hn h
  have hlt : r₁.cnt < n := Nat.lt_of_not_le fun hle => absurd (hiff.1 hle) (by omega)
  exact ⟨r₁, by simp only [readBits, e, if_pos hlt], hstands⟩

/-! ## The next whole bytes -/

theorem decodeZhdr_of_le (hb : ∀ a, a < len → byte a = some (b a)) (hfit : r.ip + 2 ≤ len) :
    decodeZhdr byte len r = .instr (.zhdr (b r.ip) (b (r.ip + 1))) { r with ip := r.ip + 2 } := by
  simp only [decodeZhdr, if_neg (Nat.not_lt.2 hfit), readByte, hb r.ip (by omega), hb (r.ip + 1) (by omega), Read.thenDecode]

theorem decodeStored_of_le (hb : ∀ a, a < len → byte a = some (b a)) (hfit : r.ip + 4 ≤ len) :
    decodeStored byte len r =
      .instr (.lenNlen (b (r.ip + 1) ++ b r.ip) (b (r.ip + 3) ++ b (r.ip + 2))) { ip := r.ip + 4, cnt := 0, buf := 0 } := by
  simp only [decodeStored, if_neg (Nat.not_lt.2 hfit), readByte, Reader.byteAlign, hb r.ip (by omega), hb (r.ip + 1) (by omega),
    hb (r.ip + 1 + 1) (by omega), hb (r.ip + 1 + 1 + 1) (by omega), Read.thenDecode, littleEndian16]

theorem decodeTrailer_of_le (hb : ∀ a, a < len → byte a = some (b a)) (hfit : r.ip + 4 ≤ len) :
    decodeTrailer byte len r =
      .instr (.trailer (b r.ip ++ b (r.ip + 1) ++ b (r.ip + 2) ++ b (r.ip + 3))) { ip := r.ip + 4, cnt := 0, buf := 0 } := by
  simp only [decodeTrailer, if_neg (Nat.not_lt.2 hfit), readByte, Reader.byteAlign, hb r.ip (by omega), hb (r.ip + 1) (by omega),
    hb (r.ip + 1 + 1) (by omega), hb (r.ip + 1 + 1 + 1) (by omega), Read.thenDecode, bigEndian32]

theorem decodeData_of_lt (hb : ∀ a, a < len → byte a = some (b a)) (hlt : r.ip < len) :
    decodeData byte r = .instr (.data (b r.ip)) { r with ip := r.ip + 1 } := by
  simp only [decodeData, readByte, hb r.ip hlt, Read.thenDecode]

end Input

/-! ## The registers after whole bytes -/

/-- IP n bytes on, with what is buffered left as it is. -/
theorem State.withReader_skip (s : State) (n : Nat) :
    s.withReader { s.reader with ip := s.ip.toNat + n } = { s with ip := s.ip + BitVec.ofNat 32 n } := by
  simp only [State.withReader, State.reader, BitVec.ofNat_add, BitVec.ofNat_toNat, BitVec.setWidth_eq]

/-- IP n bytes on after byteAlign (40_bitreader.md R93). -/
theorem State.withReader_alignedSkip (s : State) (n : Nat) :
    s.withReader { ip := s.ip.toNat + n, cnt := 0, buf := 0 } =
      { s with ip := s.ip + BitVec.ofNat 32 n, bitCnt := 0, bitBuf := 0 } := by
  simp only [State.withReader, BitVec.ofNat_add, BitVec.ofNat_toNat, BitVec.setWidth_eq]
  rfl

theorem State.withReader_byteAlign (s : State) : s.withReader s.reader.byteAlign = { s with bitCnt := 0, bitBuf := 0 } := by
  simp only [State.withReader, State.reader, Reader.byteAlign, BitVec.ofNat_toNat, BitVec.setWidth_eq]
  rfl

/-- Two states with the same part left that agree with no part left. -/
theorem State.eq_of_setPend_eq {s t : State} (hp : s.pend = t.pend) (h : s.setPend .none = t.setPend .none) : s = t :=
  calc s = (s.setPend .none).setPend s.pend := rfl
    _ = (t.setPend .none).setPend t.pend := by rw [h, hp]
    _ = t := rfl

/-! ## The engine's step at a place -/

/-- An element that leaves no part is the whole step. -/
theorem step_of_instr {s : State} {c : Ctx} {i : Instr} {r : Reader} (hscript : s.script = []) (hp : s.place = some c)
    (hd : decode c s.readIn s.inLen.toNat s.reader = .instr i r) : step s = thenParts exec (exec i (s.advance.withReader r)) :=
  (stepRunsDecodedElement s c i r hp hd).1 hscript

/-- An element whose read raises ends the step in ERROR. -/
theorem step_of_raise {s : State} {c : Ctx} {e : ErrorCode} {r : Reader} {got : List Nat} (hscript : s.script = [])
    (hp : s.place = some c) (hd : decode c s.readIn s.inLen.toNat s.reader = .raise e r got) :
    step s = .next (((s.advance.withReader r).keepRead c got).enterError e) :=
  (stepTakesReadErrors s c e r got hp hd).1 hscript

end Sys2Proof.Machine
end

section
/-! PROOFS. The steps at the two ends of a decode and of its blocks (42_block_decoder.md R110, R111, R112, R119, R120). -/

namespace Sys2Proof.Machine

/-! ## The block header (R112) -/

section Input

variable {byte : Nat → Option Byte} {b : Nat → Byte} {len top p : Nat} {r : Reader}

theorem decodeBlock_of_le (hb : ∀ a, a < len → byte a = some (b a)) (h : r.StandsAt b len top p) (hfit : p + 3 ≤ 8 * top) :
    ∃ r', decodeBlock byte len r = .instr (blockOf (streamField b p 1) (streamField b (p + 1) 2)) r' ∧
      r'.StandsAt b len top (p + 3) := by
  obtain ⟨r₁, e₁, h₁⟩ := readBits_of_le hb (n := 1) (by omega) h (by omega)
  obtain ⟨r₂, e₂, h₂⟩ := readBits_of_le hb (n := 2) (by omega) h₁ (by omega)
  exact ⟨r₂, by simp only [decodeBlock, e₁, e₂, Read.thenDecode], h₂⟩

/-- A cut header keeps BFINAL where its bit was there (R112, 00_scope.md R7). -/
theorem decodeBlock_of_lt (hb : ∀ a, a < len → byte a = some (b a)) (h : r.StandsAt b len top p) (hcut : 8 * top < p + 3) :
    ∃ r', decodeBlock byte len r = .raise .truncatedInput r' (if p + 1 ≤ 8 * top then [streamField b p 1] else []) := by
  by_cases hfit : p + 1 ≤ 8 * top
  · obtain ⟨r₁, e₁, h₁⟩ := readBits_of_le hb (n := 1) (by omega) h hfit
    obtain ⟨r₂, e₂, -⟩ := readBits_of_lt hb (n := 2) (by omega) h₁ (by omega)
    exact ⟨r₂, by simp only [decodeBlock, e₁, e₂, Read.thenDecode, if_pos hfit]⟩
  · obtain ⟨r₁, e₁, -⟩ := readBits_of_lt hb (n := 1) (by omega) h (by omega)
    exact ⟨r₁, by simp only [decodeBlock, e₁, Read.thenDecode, if_neg hfit]⟩

end Input

/-- A block header selects the state of its type, and the bit reader stays where it is (R112). -/
theorem exec_blockOf {f t : Nat} (hf : f < 2) (ht : t < 4) (s : State) :
    ∃ u, exec (blockOf f t) s = .next u ∧ u.pend = .none ∧ u.reader = s.reader ∧ u.bfinal.toNat = f ∧ u.btype.toNat = t ∧
      (u.btype = 0 → u.fsm = .stored) ∧ (u.btype = 1 → u.fsm = .body ∧ u.litt = flit ∧ u.distt = fdist) ∧
      (u.btype = 2 → u.fsm = .dynhdr) ∧ (u.btype = 3 → u.fsm = .error ∧ u.errCode = 0x05) := by
  have hbfinal : (BitVec.ofNat 1 f).toNat = f := Nat.mod_eq_of_lt hf
  obtain ⟨hstored, hfixed, hdynamic, hreserved⟩ := blockTypesSelectTheirState (BitVec.ofNat 1 f) s
  interval_cases t
  · exact ⟨_, hstored, rfl, rfl, hbfinal, rfl, by simp⟩
  · exact ⟨_, hfixed, rfl, rfl, hbfinal, rfl, by simp⟩
  · exact ⟨_, hdynamic, rfl, rfl, hbfinal, rfl, by simp⟩
  · exact ⟨_, hreserved, rfl, rfl, hbfinal, rfl, by simp⟩

/-! ## FINISH (R120) -/

/-- The bytes the checksum runs over are those of OUT, in address order (45_adler32.md R162). -/
theorem State.outBytes_eq_map (s : State) (n a : Nat) : s.outBytes n a = (List.range' a n).map s.outByte := by
  induction n generalizing a with
  | zero => rfl
  | succ n ih => rw [State.outBytes, ih, List.range'_succ, List.map_cons]

/-- FINISH computes the checksum of what the decode has written, whatever the draw of the bytes from OP on (R162). -/
theorem State.Decoding.loadAdler_advance {s : State} (h : s.Decoding) :
    s.advance.loadAdler = { s.advance with adler := adlerCalc ((List.range s.op.toNat).map s.outByte) } := by
  obtain ⟨-, -, -, -, hlist, -⟩ := h
  have hbytes : s.advance.outBytes s.op.toNat 0 = (List.range s.op.toNat).map s.outByte := by
    rw [State.outBytes_eq_map, ← List.range_eq_range']
    exact List.map_congr_left fun a ha => State.outByte_below hlist (List.mem_range.1 ha) rfl
  show ({ s.advance with adler := adlerCalc (s.advance.outBytes s.op.toNat 0) } : State) = _
  rw [hbytes]

/-- What FINISH does, within OUT: with VERIFY in zlib mode the trailer is to follow (R120). -/
theorem exec_finish {s : State} (h : s.op.toNat ≤ s.par.outMemSize) :
    exec .finish s = .next (if s.mode && s.verify then s.loadAdler.setPend .trailer else s.loadAdler.complete) := by
  show (finishDecode s).finish = _
  rw [finishDecode, if_pos h, Res.finish]

/-- The trailer ends the decode, in DONE or with ChecksumMismatch (45_adler32.md R163). -/
theorem exec_trailer (w : Word) (s : State) :
    exec (.trailer w) s =
      .next (if w ≠ s.adler then (s.loadTrailer w).enterError .checksumMismatch else (s.loadTrailer w).complete) := by
  show (checkTrailer w s).finish = _
  unfold checkTrailer
  split_ifs
  · rfl
  · rfl

/-- FINISH with the checksum a computed and the trailer to come (R120). -/
def State.beforeTrailer (s : State) (a : Word) : State := State.setPend { s.advance with adler := a } .trailer

/-- The part of FINISH that reads the trailer (R163). -/
theorem runPart_trailer {u : State} (hp : u.pend = .trailer) (hb : ∀ a, a < u.inLen.toNat → u.readIn a = some (u.inByte a))
    {w : Word} (hw : w = u.inByte u.ip.toNat ++ u.inByte (u.ip.toNat + 1) ++ u.inByte (u.ip.toNat + 2) ++ u.inByte (u.ip.toNat + 3)) :
    runPart exec u = .next
      (if u.inLen.toNat < u.ip.toNat + 4 then { u with bitCnt := 0, bitBuf := 0 }.enterError .truncatedInput
      else if w ≠ u.adler then
        { u with ip := u.ip + 4, bitCnt := 0, bitBuf := 0, trailer := w }.enterError .checksumMismatch
      else { u with ip := u.ip + 4, bitCnt := 0, bitBuf := 0, trailer := w }.complete) := by
  have hplace : u.place = some .trailer := by simp [State.place, hp]
  by_cases hcut : u.inLen.toNat < u.ip.toNat + 4
  · rw [if_pos hcut, runPart_raise exec hplace (if_pos hcut)]
    exact congrArg (fun v : State => Host.Outcome.next (v.enterError .truncatedInput)) u.withReader_byteAlign
  · rw [if_neg hcut, runPart_instr exec hplace (decodeTrailer_of_le hb (Nat.le_of_not_lt hcut)), exec_trailer]
    have hskip : u.withReader { ip := u.reader.ip + 4, cnt := 0, buf := 0 } =
      { u with ip := u.ip + 4, bitCnt := 0, bitBuf := 0 } := u.withReader_alignedSkip 4
    rw [hskip, hw]
    rfl

/-! ## The statements -/

/-- Settles O29: the two bytes stand at IP with nothing buffered, and each of the checks is one of the step's outcomes. -/
theorem zlibHeaderStep : Obligations.ZlibHeaderStep := by
  unfold Obligations.ZlibHeaderStep
  intro s h hscript hf
  have hpend := h.pend_eq
  have hplace : s.place = some .zhdr := by simp [State.place, hpend, hf]
  have hdec := h.decoding (by simp [State.busy, hf, Fsm.running])
  by_cases hcut : s.inLen.toNat < s.ip.toNat + 2
  · rw [if_pos hcut, step_of_raise hscript hplace (if_pos hcut)]
    exact congrArg (fun u : State => Host.Outcome.next (u.enterError .truncatedInput)) s.advance.withReader_reader
  · rw [if_neg hcut, step_of_instr hscript hplace (decodeZhdr_of_le hdec.readIn (Nat.le_of_not_lt hcut))]
    have hskip : s.advance.withReader { s.reader with ip := s.ip.toNat + 2 } = { s.advance with ip := s.ip + 2 } :=
      s.advance.withReader_skip 2
    show thenParts exec (exec (.zhdr (s.inByte s.ip.toNat) (s.inByte (s.ip.toNat + 1)))
      (s.advance.withReader { s.reader with ip := s.ip.toNat + 2 })) = _
    rw [hskip]
    show thenParts exec (zlibHeader _ _ _).finish = _
    unfold zlibHeader
    split_ifs
    · exact thenParts_next rfl
    · exact thenParts_next rfl
    · exact thenParts_next rfl
    · refine (thenParts_next rfl).trans ?_
      exact congrArg Host.Outcome.next (State.eq_of_setPend_eq hpend.symm rfl)

/-- Settles O31: the header is a field of one bit and one of two; a cut one has the first of them or none. -/
theorem blockHeaderStep : Obligations.BlockHeaderStep := by
  unfold Obligations.BlockHeaderStep
  intro s h hscript hf
  have hplace : s.place = some .block := by simp [State.place, h.pend_eq, hf]
  have hdec := h.decoding (by simp [State.busy, hf, Fsm.running])
  refine ⟨fun hfit => ?_, fun hcut => ?_⟩
  · obtain ⟨r, e, hr⟩ := decodeBlock_of_le hdec.readIn hdec.standsAt hfit
    obtain ⟨u, hu, hpend, hreader, hu'⟩ :=
      exec_blockOf (streamField_lt s.inByte s.reader.bitPos 1) (streamField_lt s.inByte (s.reader.bitPos + 1) 2)
        (s.advance.withReader r)
    refine ⟨u, ?_, ?_, hu'⟩
    · rw [step_of_instr hscript hplace e, hu, thenParts_next hpend]
    · rw [hreader, State.reader_withReader_of_standsAt _ hr s.max_inLen_ip_lt, hr.bitPos_eq]
  · obtain ⟨r, e⟩ := decodeBlock_of_lt hdec.readIn hdec.standsAt hcut
    have hstep := step_of_raise hscript hplace e
    have hbtype : (s.advance.withReader r).btype = s.btype := rfl
    have hbfinal : (s.advance.withReader r).bfinal = s.bfinal := rfl
    generalize s.advance.withReader r = u at *
    by_cases hfit : s.reader.bitPos + 1 ≤ 8 * Nat.max s.inLen.toNat s.ip.toNat
    · rw [if_pos hfit] at hstep
      exact ⟨_, hstep, rfl, rfl, hbtype, fun _ => Nat.mod_eq_of_lt (streamField_lt _ _ 1),
        fun hno => absurd hfit (Nat.not_le.2 hno)⟩
    · rw [if_neg hfit] at hstep
      exact ⟨_, hstep, rfl, rfl, hbtype, fun hyes => absurd hyes hfit, fun _ => hbfinal⟩

/-- Settles O50: without VERIFY in zlib mode FINISH leaves no part; with it the trailer is the step's one other part. -/
theorem finishStep : Obligations.FinishStep := by
  unfold Obligations.FinishStep
  intro s h hscript hf a w ha hw
  have hpend := h.pend_eq
  have hdec := h.decoding (by simp [State.busy, hf, Fsm.running])
  obtain ⟨hop, hcap⟩ := hdec.output_ok
  have hstep := step_internal (i := .finish) hscript (by simp [State.internalStep, hpend, hf])
  rw [exec_finish (s := s.advance) (le_trans hop hcap), hdec.loadAdler_advance, ← ha] at hstep
  rw [hstep, State.advance_mode, State.advance_verify]
  cases hverify : s.mode && s.verify
  · rw [if_neg (by decide), if_pos rfl]
    refine (thenParts_next rfl).trans ?_
    exact congrArg Host.Outcome.next (State.eq_of_setPend_eq hpend.symm rfl)
  · rw [if_pos rfl, if_neg (by decide)]
    have htrailer := runPart_trailer (u := s.beforeTrailer a) rfl hdec.readIn hw
    refine (thenParts_one (s := s.beforeTrailer a) nofun htrailer (by split_ifs <;> rfl)).trans ?_
    show Host.Outcome.next (if s.inLen.toNat < s.ip.toNat + 4 then _ else if w ≠ a then _ else _) = _
    split_ifs
    · rfl
    · rfl
    · exact congrArg Host.Outcome.next (State.eq_of_setPend_eq hpend.symm rfl)

/-- Settles O27: the initialisation is the model's own, field by field. -/
theorem startInitialisesDecode : Obligations.StartInitialisesDecode := fun _ => rfl

/-- Settles O39: DYNBUILD builds both tables from LENS and goes to BODY. -/
theorem dynbuildBuildsBothTables : Obligations.DynbuildBuildsBothTables := fun _ => rfl

end Sys2Proof.Machine
end

section
/-! PROOFS. The STORED step (42_block_decoder.md R113): what its header does, and the loop over its data bytes. -/

namespace Sys2Proof.Machine

/-! ## The header -/

theorem storedHeader_of_ne {len nlen : BitVec 16} (s : State) (h : len ≠ nlen ^^^ 0xFFFF) :
    storedHeader len nlen s = .raise .invalidStoredBlockHeader s := if_pos h

theorem storedHeader_of_short {len nlen : BitVec 16} {s : State} (h : len = nlen ^^^ 0xFFFF)
    (hshort : s.inLen.toNat < s.ip.toNat + len.toNat) : storedHeader len nlen s = .raise .inputBufferBroken s := by
  rw [storedHeader, if_neg (not_not.2 h), if_pos hshort]

/-- With its checks passed the header makes room for the data (44_output_growth.md R152). -/
theorem storedHeader_of_long {len nlen : BitVec 16} {s : State} (h : len = nlen ^^^ 0xFFFF)
    (hlong : s.ip.toNat + len.toNat ≤ s.inLen.toNat) :
    storedHeader len nlen s = (s.grow (s.op.toNat + len.toNat) (some 2)).andThen fun t => .ok (t.beginData len.toNat) := by
  rw [storedHeader, if_neg (not_not.2 h), if_neg (Nat.not_lt.2 hlong)]
  rfl

theorem State.grow_of_overflow {s : State} {required : Nat} (ratio : Option Nat) (hcap : s.cap.toNat ≤ s.par.outMemSize)
    (h : s.par.outMemSize < required) : s.grow required ratio = .raise .outputOverflow s := by
  rw [State.grow, if_neg (by omega), if_pos h]

theorem State.grow_of_fits {s : State} {required : Nat} (ratio : Option Nat) (h : required ≤ s.par.outMemSize) :
    ∃ g, s.grow required ratio = .ok g := by
  unfold State.grow
  split_ifs
  · exact ⟨_, rfl⟩
  · omega
  · exact ⟨_, rfl⟩

/-- `grow` with a fixed ratio looks at CAP and the size of OUT alone (R152). -/
theorem State.grow_ratio_congr {s t g : State} {required k : Nat} (hcap : t.cap = s.cap) (hpar : t.par = s.par)
    (h : s.grow required (some k) = .ok g) : t.grow required (some k) = .ok { t with cap := g.cap } := by
  unfold State.grow at h ⊢
  rw [hcap, hpar]
  split_ifs at h ⊢
  · cases h
    rw [← hcap, ← hpar]
  · cases h
    rfl

/-! ## The data -/

/-- k data bytes copied and `left` to come: OUT is m, and the block ends where none is left (R113). -/
def State.afterData (s : State) (m : Mem) (k left : Nat) : State :=
  { s with
    ip := s.ip + BitVec.ofNat 32 k, outMem := m, op := s.op + BitVec.ofNat 32 k
    pend := if left = 0 then .none else .storedData left
    fsm := if left = 0 then (if s.bfinal = 1 then .finish else .bhdr) else s.fsm }

theorem State.afterData_afterData (s : State) (m m' : Mem) (k n : Nat) :
    (s.afterData m 1 (n + 1)).afterData m' k 0 = s.afterData m' (k + 1) 0 := by
  simp only [State.afterData, BitVec.add_assoc, ← BitVec.ofNat_add, Nat.add_comm 1 k, if_true]
  rfl

/-- One data byte, a part of the step: the byte at IP goes out at OP. -/
theorem runPart_data {n : Nat} {s : State} (hp : s.pend = .storedData (n + 1)) (hin : s.ip.toNat < s.inLen.toNat)
    (hlen : s.inLen.toNat ≤ s.par.inMemSize) (hout : s.op.toNat < s.par.outMemSize) :
    ∃ m, runPart exec s = .next (s.afterData m 1 n) ∧
      ∀ a, (s.afterData m 1 n).outByte a = if a = s.op.toNat then s.inByte s.ip.toNat else s.outByte a := by
  have hplace : s.place = some .data := by simp [State.place, hp]
  have hd := decodeData_of_lt (r := s.reader) (fun a ha => s.readIn_of_lt (lt_of_lt_of_le ha hlen)) hin
  have hskip : s.withReader { s.reader with ip := s.reader.ip + 1 } = { s with ip := s.ip + 1 } := s.withReader_skip 1
  obtain ⟨u, hu, hbytes, hfields⟩ := storedByteIsCopied (s.inByte s.ip.toNat) n { s with ip := s.ip + 1 } hout hp
  have hfields' : u = s.afterData u.outMem 1 n := hfields
  refine ⟨u.outMem, ?_, ?_⟩
  · rw [runPart_instr exec hplace hd, hskip, ← hfields']
    exact hu
  · rw [← hfields']
    exact hbytes

/-- The n + 1 bytes at IP go out at OP one by one, and the block ends with the last. -/
theorem runParts_storedData (n : Nat) {s : State} {fuel : Nat} (hfuel : n + 1 ≤ fuel) (hp : s.pend = .storedData (n + 1))
    (hin : s.ip.toNat + (n + 1) ≤ s.inLen.toNat) (hlen : s.inLen.toNat ≤ s.par.inMemSize)
    (hout : s.op.toNat + (n + 1) ≤ s.par.outMemSize) (hsize : s.par.outMemSize ≤ 2 ^ 31) :
    ∃ m, runParts exec fuel s = .next (s.afterData m (n + 1) 0) ∧
      (∀ k, k < n + 1 → (s.afterData m (n + 1) 0).outByte (s.op.toNat + k) = s.inByte (s.ip.toNat + k)) ∧
      ∀ a, a < s.op.toNat → (s.afterData m (n + 1) 0).outByte a = s.outByte a := by
  obtain ⟨fuel, rfl⟩ := Nat.exists_eq_add_of_le' (le_trans (Nat.le_add_left 1 n) hfuel)
  obtain ⟨m, hu, hbytes⟩ := runPart_data hp (by omega) hlen (by omega)
  rw [runParts_succ exec (by rw [hp]; nofun), hu]
  cases n with
  | zero =>
    refine ⟨m, runParts_done rfl _, fun k hk => ?_, fun a ha => ?_⟩
    · rw [hbytes, Nat.lt_one_iff.1 hk]
      exact if_pos rfl
    · exact (hbytes a).trans (if_neg (by omega))
  | succ n =>
    have hip : (s.afterData m 1 (n + 1)).ip.toNat = s.ip.toNat + 1 := by
      show (s.ip + 1).toNat = _
      bv_omega
    have hop : (s.afterData m 1 (n + 1)).op.toNat = s.op.toNat + 1 := by
      show (s.op + 1).toNat = _
      bv_omega
    obtain ⟨m', ht, hdata, hbelow⟩ := runParts_storedData n (s := s.afterData m 1 (n + 1)) (fuel := fuel) (by omega) rfl
      (by rw [hip]; show _ ≤ s.inLen.toNat; omega) hlen (by rw [hop]; show _ ≤ s.par.outMemSize; omega) hsize
    rw [hip, hop, s.afterData_afterData] at *
    refine ⟨m', ht, fun k hk => ?_, fun a ha => ?_⟩
    · cases k with
      | zero => exact (hbelow _ (by omega)).trans ((hbytes _).trans (if_pos rfl))
      | succ k =>
        rw [Nat.add_comm k 1, ← Nat.add_assoc, ← Nat.add_assoc]
        exact hdata k (by omega)
    · exact (hbelow a (by omega)).trans ((hbytes a).trans (if_neg (by omega)))
termination_by n

/-- The data of a stored block, none of them or some, and its end (R113). -/
theorem thenParts_beginData {s : State} {n : Nat} (hn : n ≤ maxParts) (hin : s.ip.toNat + n ≤ s.inLen.toNat)
    (hlen : s.inLen.toNat ≤ s.par.inMemSize) (hout : s.op.toNat + n ≤ s.par.outMemSize) (hsize : s.par.outMemSize ≤ 2 ^ 31) :
    ∃ m, thenParts exec (.next (s.beginData n)) = .next (s.afterData m n 0) ∧
      ∀ k, k < n → (s.afterData m n 0).outByte (s.op.toNat + k) = s.inByte (s.ip.toNat + k) := by
  cases n with
  | zero =>
    have hend : s.beginData 0 = s.afterData s.outMem 0 0 := by
      simp only [State.afterData, BitVec.ofNat_eq_ofNat, BitVec.add_zero]
      rfl
    exact ⟨s.outMem, by rw [hend]; exact thenParts_next rfl, nofun⟩
  | succ n =>
    obtain ⟨m, ht, hdata, -⟩ := runParts_storedData n (s := s.setPend (.storedData (n + 1))) hn rfl hin hlen hout hsize
    exact ⟨m, ht, hdata⟩

/-- LEN and NLEN read, after byteAlign: the state the header's checks see (R113). -/
def State.pastStoredHeader (s : State) : State := { s.advance with ip := s.ip + 4, bitCnt := 0, bitBuf := 0 }

theorem State.pastStoredHeader_ip {s : State} (h : s.ip.toNat + 4 ≤ s.inLen.toNat) : s.pastStoredHeader.ip.toNat = s.ip.toNat + 4 := by
  have := s.inLen.isLt
  show (s.ip + 4).toNat = _
  bv_omega

/-- Where the input has the four bytes of the header, the step runs it. -/
theorem step_stored {s : State} (h : s.Inv) (hscript : s.script = []) (hf : s.fsm = .stored) (hle : s.ip.toNat + 4 ≤ s.inLen.toNat) :
    step s = thenParts exec (storedHeader (s.inByte (s.ip.toNat + 1) ++ s.inByte s.ip.toNat)
      (s.inByte (s.ip.toNat + 3) ++ s.inByte (s.ip.toNat + 2)) s.pastStoredHeader).finish := by
  have hplace : s.place = some .stored := by simp [State.place, h.pend_eq, hf]
  have hdec := h.decoding (by simp [State.busy, hf, Fsm.running])
  have hskip : s.advance.withReader { ip := s.reader.ip + 4, cnt := 0, buf := 0 } = s.pastStoredHeader :=
    s.advance.withReader_alignedSkip 4
  rw [step_of_instr hscript hplace (decodeStored_of_le hdec.readIn hle), hskip]
  rfl

/-! ## The statement -/

/-- Settles O34: the header's checks in their order; then one part for each byte, after which OUT below the new OP is what was
copied, and past it the draw of the step. -/
theorem storedBlockStep : Obligations.StoredBlockStep := by
  unfold Obligations.StoredBlockStep
  intro s h hscript hf len nlen hlen hnlen
  have hbusy : s.busy = true := by simp [State.busy, hf, Fsm.running]
  have hdec := h.decoding hbusy
  obtain ⟨⟨-, hinLen⟩, -⟩ := id h
  obtain ⟨-, hcap⟩ := hdec.output_ok
  have hsize : s.par.outMemSize ≤ 2 ^ 31 := h.1.outMemSize_le
  have hstep (hle : s.ip.toNat + 4 ≤ s.inLen.toNat) : step s = thenParts exec (storedHeader len nlen s.pastStoredHeader).finish := by
    rw [hlen, hnlen]
    exact step_stored h hscript hf hle
  have hheader (hlong : s.ip.toNat + 4 + len.toNat ≤ s.inLen.toNat) (heq : len = nlen ^^^ 0xFFFF) :
      storedHeader len nlen s.pastStoredHeader =
        (s.pastStoredHeader.grow (s.op.toNat + len.toNat) (some 2)).andThen fun t => .ok (t.beginData len.toNat) :=
    storedHeader_of_long heq (by rw [State.pastStoredHeader_ip (by omega)]; exact hlong)
  refine ⟨fun hcut => ?_, fun hle hne => ?_, fun hle heq hshort => ?_, fun hlong heq hover => ?_, fun hlong heq hfit => ?_⟩
  · rw [step_of_raise (c := .stored) hscript (by simp [State.place, h.pend_eq, hf]) (if_pos hcut)]
    exact congrArg (fun v : State => Host.Outcome.next (v.enterError .invalidStoredBlockHeader)) s.advance.withReader_byteAlign
  · rw [hstep hle, storedHeader_of_ne _ hne]
    exact thenParts_next rfl
  · rw [hstep hle, storedHeader_of_short heq (by rw [State.pastStoredHeader_ip hle]; exact hshort)]
    exact thenParts_next rfl
  · have hle : s.ip.toNat + 4 ≤ s.inLen.toNat := by omega
    rw [hstep hle, hheader hlong heq, State.grow_of_overflow (s := s.pastStoredHeader) _ hcap hover]
    exact thenParts_next rfl
  · have hle : s.ip.toNat + 4 ≤ s.inLen.toNat := by omega
    obtain ⟨g, hg⟩ := State.grow_of_fits (some 2) hfit
    have hgrow : s.pastStoredHeader.grow (s.op.toNat + len.toNat) (some 2) = .ok { s.pastStoredHeader with cap := g.cap } :=
      State.grow_ratio_congr (s := s) rfl rfl hg
    obtain ⟨m, ht, hdata⟩ := thenParts_beginData (s := { s.pastStoredHeader with cap := g.cap }) (n := len.toNat)
      (le_trans len.isLt.le (by decide)) (by rw [State.pastStoredHeader_ip hle]; exact hlong) hinLen hfit hsize
    have hstep' : step s = .next (State.afterData { s.pastStoredHeader with cap := g.cap } m len.toNat 0) := by
      rw [hstep hle, hheader hlong heq, hgrow]
      exact ht
    obtain ⟨-, hbelow', -, hfree⟩ := outputBelowCursorIsFinal s _ h hscript hbusy hstep'
    refine ⟨g, _, hg, hstep', State.eq_of_setPend_eq h.pend_eq.symm rfl, fun k hk => ?_, hbelow', fun a ha => hfree a ?_⟩
    · rw [← State.pastStoredHeader_ip hle]
      exact hdata k hk
    · show (s.op + BitVec.ofNat 32 len.toNat).toNat ≤ a
      rw [BitVec.toNat_add, BitVec.toNat_ofNat]
      omega

end Sys2Proof.Machine
end

section
/-! PROOFS. The DYNHDR step (42_block_decoder.md R114): the three counts, and the loop over the code-length code lengths. -/

namespace Sys2Proof.Machine

/-! ## The fields of the header -/

section Input

variable {byte : Nat → Option Byte} {b : Nat → Byte} {len top p : Nat} {r : Reader}

theorem decodeDyn_of_le (hb : ∀ a, a < len → byte a = some (b a)) (h : r.StandsAt b len top p) (hfit : p + 14 ≤ 8 * top) :
    ∃ r', decodeDyn byte len r = .instr (.dyn (BitVec.ofNat 5 (streamField b p 5)) (BitVec.ofNat 5 (streamField b (p + 5) 5))
        (BitVec.ofNat 4 (streamField b (p + 10) 4))) r' ∧ r'.StandsAt b len top (p + 14) := by
  obtain ⟨r₁, e₁, h₁⟩ := readBits_of_le hb (n := 5) (by omega) h (by omega)
  obtain ⟨r₂, e₂, h₂⟩ := readBits_of_le hb (n := 5) (by omega) h₁ (by omega)
  obtain ⟨r₃, e₃, h₃⟩ := readBits_of_le hb (n := 4) (by omega) h₂ (by omega)
  exact ⟨r₃, by simp only [decodeDyn, e₁, e₂, e₃, Read.thenDecode], h₃⟩

/-- A cut header keeps the counts whose bits were there (R114, 00_scope.md R7). -/
theorem decodeDyn_of_lt (hb : ∀ a, a < len → byte a = some (b a)) (h : r.StandsAt b len top p) (hcut : 8 * top < p + 14) :
    ∃ r', decodeDyn byte len r = .raise .truncatedInput r'
      (if 8 * top < p + 5 then [] else if 8 * top < p + 10 then [streamField b p 5]
      else [streamField b p 5, streamField b (p + 5) 5]) := by
  split_ifs with h5 h10
  · obtain ⟨r₁, e₁, -⟩ := readBits_of_lt hb (n := 5) (by omega) h h5
    exact ⟨r₁, by simp only [decodeDyn, e₁, Read.thenDecode]⟩
  · obtain ⟨r₁, e₁, h₁⟩ := readBits_of_le hb (n := 5) (by omega) h (by omega)
    obtain ⟨r₂, e₂, -⟩ := readBits_of_lt hb (n := 5) (by omega) h₁ (by omega)
    exact ⟨r₂, by simp only [decodeDyn, e₁, e₂, Read.thenDecode]⟩
  · obtain ⟨r₁, e₁, h₁⟩ := readBits_of_le hb (n := 5) (by omega) h (by omega)
    obtain ⟨r₂, e₂, h₂⟩ := readBits_of_le hb (n := 5) (by omega) h₁ (by omega)
    obtain ⟨r₃, e₃, -⟩ := readBits_of_lt hb (n := 4) (by omega) h₂ (by omega)
    exact ⟨r₃, by simp only [decodeDyn, e₁, e₂, e₃, Read.thenDecode]⟩

theorem decodeCll_of_le (hb : ∀ a, a < len → byte a = some (b a)) (h : r.StandsAt b len top p) (hfit : p + 3 ≤ 8 * top) :
    ∃ r', decodeCll byte len r = .instr (.cll (BitVec.ofNat 3 (streamField b p 3))) r' ∧ r'.StandsAt b len top (p + 3) := by
  obtain ⟨r₁, e₁, h₁⟩ := readBits_of_le hb (n := 3) (by omega) h hfit
  exact ⟨r₁, by simp only [decodeCll, e₁, Read.thenDecode], h₁⟩

theorem decodeCll_of_lt (hb : ∀ a, a < len → byte a = some (b a)) (h : r.StandsAt b len top p) (hcut : 8 * top < p + 3) :
    ∃ r', decodeCll byte len r = .raise .truncatedInput r' [] := by
  obtain ⟨r₁, e₁, -⟩ := readBits_of_lt hb (n := 3) (by omega) h hcut
  exact ⟨r₁, by simp only [decodeCll, e₁, Read.thenDecode]⟩

end Input

/-! ## The loop over the code-length code lengths -/

/-- CLLEN with the first m code-length code lengths from bit position q on written to it (30_encoding.md R67). -/
def clLensRead (b : Nat → Byte) (q : Nat) (v : Vector (BitVec 3) 19) : Nat → Vector (BitVec 3) 19
  | 0 => v
  | m + 1 => (clLensRead b q v m).setIfInBounds (clOrder.getD m 19) (BitVec.ofNat 3 (streamField b (q + 3 * m) 3))

theorem clLensRead_getElem? (b : Nat → Byte) (q : Nat) (v : Vector (BitVec 3) 19) {m j : Nat} (hm : m ≤ 19) (hj : j < 19) :
    (clLensRead b q v m)[clOrder.getD j 19]? =
      if j < m then some (BitVec.ofNat 3 (streamField b (q + 3 * j) 3)) else v[clOrder.getD j 19]? := by
  induction m with
  | zero => rfl
  | succ m ih =>
    rw [clLensRead, Vector.getElem?_setIfInBounds, ih (by omega)]
    simp only [clOrder_getD_inj (by omega : m < 19) hj, clOrder_getD_lt m (by omega), if_true]
    by_cases hmj : m = j
    · rw [if_pos hmj, if_pos (by omega), hmj]
    · rw [if_neg hmj]
      exact if_congr (by omega) rfl rfl

/-- Code-length code length number i to come, with the reader r and CLLEN v (42_block_decoder.md R114). -/
def State.atCll (s : State) (r : Reader) (v : Vector (BitVec 3) 19) (i : Nat) : State :=
  { s.withReader r with clLen := v, pend := .clLengths i }

theorem State.atCll_pend_ne (s : State) (r : Reader) (v : Vector (BitVec 3) 19) (i : Nat) : (s.atCll r v i).pend ≠ .none :=
  Pending.noConfusion

theorem State.atCll_setClLen (s : State) (r r' : Reader) (v : Vector (BitVec 3) 19) (i : Nat) (l : BitVec 3) :
    (((s.atCll r v i).withReader r').setClLen i l).setPend (.clLengths (i + 1)) =
      s.atCll r' (v.setIfInBounds (clOrder.getD i 19) l) (i + 1) := by
  simp only [State.atCll, State.setPend, State.setClLen, State.withReader]

/-- m code-length code lengths read, from bit position q on. -/
def State.afterClls (s : State) (q : Nat) (r : Reader) (m : Nat) : State := s.atCll r (clLensRead s.inByte q s.clLen m) m

@[simp] theorem State.afterClls_clLen (s : State) (q : Nat) (r : Reader) (m : Nat) :
    (s.afterClls q r m).clLen = clLensRead s.inByte q s.clLen m := rfl
@[simp] theorem State.afterClls_hlit (s : State) (q : Nat) (r : Reader) (m : Nat) : (s.afterClls q r m).hlit = s.hlit := rfl
@[simp] theorem State.afterClls_hdist (s : State) (q : Nat) (r : Reader) (m : Nat) : (s.afterClls q r m).hdist = s.hdist := rfl
@[simp] theorem State.afterClls_hclen (s : State) (q : Nat) (r : Reader) (m : Nat) : (s.afterClls q r m).hclen = s.hclen := rfl
@[simp] theorem State.afterClls_inLen (s : State) (q : Nat) (r : Reader) (m : Nat) : (s.afterClls q r m).inLen = s.inLen := rfl
@[simp] theorem State.afterClls_inByte (s : State) (q : Nat) (r : Reader) (m : Nat) : (s.afterClls q r m).inByte = s.inByte := rfl
@[simp] theorem State.afterClls_readIn (s : State) (q : Nat) (r : Reader) (m : Nat) : (s.afterClls q r m).readIn = s.readIn := rfl

theorem State.afterClls_zero {s : State} (h : s.pend = .clLengths 0) (q : Nat) : s.afterClls q s.reader 0 = s := by
  rw [State.afterClls, State.atCll, s.withReader_reader, clLensRead, ← h]

/-- After m lengths the reader is the one that read them. -/
theorem State.afterClls_reader (s : State) {b : Nat → Byte} {len top p : Nat} {r : Reader} (h : r.StandsAt b len top p)
    (htop : top < 2 ^ 32) (q m : Nat) : (s.afterClls q r m).reader = r := s.reader_withReader_of_standsAt h htop

theorem State.afterClls_pend_ne (s : State) (q : Nat) (r : Reader) (m : Nat) : (s.afterClls q r m).pend ≠ .none :=
  s.atCll_pend_ne r _ m

/-- One more length read. -/
theorem State.afterClls_succ (s : State) (q : Nat) (r r' : Reader) (m : Nat) :
    (((s.afterClls q r m).withReader r').setClLen m (BitVec.ofNat 3 (streamField s.inByte (q + 3 * m) 3))).setPend
      (.clLengths (m + 1)) = s.afterClls q r' (m + 1) := s.atCll_setClLen r r' _ m _

/-- The end of the header does not look at the part left. -/
theorem State.endDynHeader_setPend_goTo (s : State) (p : Pending) (n : Nat) (f : Fsm) :
    ((s.setPend p).endDynHeader n).goTo f = (s.endDynHeader n).goTo f := rfl

/-- One code-length code length, a part of the step. -/
theorem runPart_cll {s : State} {i top p : Nat} (hp : s.pend = .clLengths i)
    (hb : ∀ a, a < s.inLen.toNat → s.readIn a = some (s.inByte a)) (h : s.reader.StandsAt s.inByte s.inLen.toNat top p)
    (hfit : p + 3 ≤ 8 * top) :
    ∃ r, r.StandsAt s.inByte s.inLen.toNat top (p + 3) ∧
      runPart exec s = .next (((s.withReader r).setClLen i (BitVec.ofNat 3 (streamField s.inByte p 3))).nextCll i) := by
  obtain ⟨r, e, hr⟩ := decodeCll_of_le hb h hfit
  exact ⟨r, hr, (runPart_instr exec (c := .cll) (by simp [State.place, hp]) e).trans (exec_cll (s := s.withReader r) hp _)⟩

theorem runPart_cll_cut {s : State} {i top p : Nat} (hp : s.pend = .clLengths i)
    (hb : ∀ a, a < s.inLen.toNat → s.readIn a = some (s.inByte a)) (h : s.reader.StandsAt s.inByte s.inLen.toNat top p)
    (hcut : 8 * top < p + 3) : ∃ r, runPart exec s = .next ((s.withReader r).enterError .truncatedInput) := by
  obtain ⟨r, e⟩ := decodeCll_of_lt hb h hcut
  exact ⟨r, runPart_raise exec (c := .cll) (by simp [State.place, hp]) e⟩

section Loop

variable {s : State} {top q m : Nat} {r : Reader} (hb : ∀ a, a < s.inLen.toNat → s.readIn a = some (s.inByte a))
  (htop : top < 2 ^ 32)
include hb htop

/-- The part that reads code-length code length number m, the reader standing before it. -/
theorem runPart_afterClls (hr : r.StandsAt s.inByte s.inLen.toNat top (q + 3 * m)) (hfit : q + 3 * (m + 1) ≤ 8 * top) :
    ∃ r', r'.StandsAt s.inByte s.inLen.toNat top (q + 3 * (m + 1)) ∧
      runPart exec (s.afterClls q r m) = .next
        (if m + 1 < s.hclen.toNat then s.afterClls q r' (m + 1)
        else ((s.afterClls q r' (m + 1)).endDynHeader (m + 1)).goTo .clens) := by
  obtain ⟨r', hr', hpart⟩ := runPart_cll (s := s.afterClls q r m) (p := q + 3 * m) (top := top) rfl (by simpa using hb)
    (by simpa [s.afterClls_reader hr htop] using hr) (by omega)
  rw [State.afterClls_inByte] at hr' hpart
  refine ⟨r', hr', hpart.trans (congrArg Host.Outcome.next ?_)⟩
  rw [State.nextCll, ← s.afterClls_succ q r r' m, State.endDynHeader_setPend_goTo]
  rfl

variable (hp : s.pend = .clLengths 0) (h : s.reader.StandsAt s.inByte s.inLen.toNat top q)
include hp h

/-- As many parts as there are lengths before the last one sent, and as the input has. -/
theorem runParts_clLengths (hm : m < s.hclen.toNat) (hfit : q + 3 * m ≤ 8 * top) :
    ∃ r, r.StandsAt s.inByte s.inLen.toNat top (q + 3 * m) ∧
      ∀ fuel, runParts exec (fuel + m) s = runParts exec fuel (s.afterClls q r m) := by
  induction m with
  | zero => exact ⟨s.reader, h, fun fuel => by rw [State.afterClls_zero hp]; rfl⟩
  | succ m ih =>
    obtain ⟨r, hr, hrun⟩ := ih (by omega) (by omega)
    obtain ⟨r', hr', hpart⟩ := runPart_afterClls hb htop hr hfit
    rw [if_pos hm] at hpart
    refine ⟨r', hr', fun fuel => ?_⟩
    rw [← Nat.add_assoc, Nat.add_right_comm, hrun, runParts_succ exec (s.afterClls_pend_ne q r m), hpart]

/-- With all the lengths there, the last one ends the header. -/
theorem runParts_clLengths_of_le (hpos : 0 < s.hclen.toNat) (hfit : q + 3 * s.hclen.toNat ≤ 8 * top) {fuel : Nat}
    (hfuel : s.hclen.toNat ≤ fuel) :
    ∃ r, r.StandsAt s.inByte s.inLen.toNat top (q + 3 * s.hclen.toNat) ∧
      runParts exec fuel s =
        .next (((s.afterClls q r s.hclen.toNat).endDynHeader s.hclen.toNat).goTo .clens) := by
  obtain ⟨m, hm⟩ : ∃ m, s.hclen.toNat = m + 1 := ⟨_, (Nat.succ_pred_eq_of_pos hpos).symm⟩
  obtain ⟨fuel, rfl⟩ := Nat.exists_eq_add_of_le' hfuel
  obtain ⟨r, hr, hrun⟩ := runParts_clLengths hb htop hp h (m := m) (by omega) (by omega)
  obtain ⟨r', hr', hpart⟩ := runPart_afterClls hb htop hr (by omega)
  rw [if_neg (by omega)] at hpart
  rw [hm]
  refine ⟨r', hr', ?_⟩
  rw [show fuel + (m + 1) = fuel + 1 + m by omega, hrun, runParts_succ exec (s.afterClls_pend_ne q r m), hpart]
  exact runParts_done (State.goTo_pend ..) fuel

/-- With m of the lengths there but not the next, the step ends with TruncatedInput and the m lengths stand. -/
theorem runParts_clLengths_cut (hm : m < s.hclen.toNat) (hfit : q + 3 * m ≤ 8 * top) (hcut : 8 * top < q + 3 * (m + 1))
    {fuel : Nat} (hfuel : m < fuel) :
    ∃ r r', runParts exec fuel s = .next (((s.afterClls q r m).withReader r').enterError .truncatedInput) := by
  obtain ⟨fuel, rfl⟩ := Nat.exists_eq_add_of_le' (Nat.succ_le_of_lt hfuel)
  obtain ⟨r, hr, hrun⟩ := runParts_clLengths hb htop hp h hm hfit
  obtain ⟨r', hpart⟩ := runPart_cll_cut (s := s.afterClls q r m) (p := q + 3 * m) (top := top) rfl (by simpa using hb)
    (by simpa [s.afterClls_reader hr htop] using hr) (by omega)
  refine ⟨r, r', ?_⟩
  rw [show fuel + m.succ = fuel + 1 + m by omega, hrun, runParts_succ exec (s.afterClls_pend_ne q r m), hpart]
  exact runParts_done (State.enterError_pend ..) fuel

end Loop

/-! ## The counts -/

/-- The three counts of the header at bit position p are read from s, and the code-length code lengths are to come in u. -/
structure State.CountsRead (s : State) (top p : Nat) (u : State) : Prop where
  pend     : u.pend = .clLengths 0
  inByte   : u.inByte = s.inByte
  readIn   : ∀ a, a < u.inLen.toNat → u.readIn a = some (u.inByte a)
  standsAt : u.reader.StandsAt u.inByte u.inLen.toNat top (p + 14)
  hlit     : u.hlit.toNat = streamField s.inByte p 5 + 257
  hdist    : u.hdist.toNat = streamField s.inByte (p + 5) 5 + 1
  hclen    : u.hclen.toNat = streamField s.inByte (p + 10) 4 + 4

theorem State.setCounts_inByte (s : State) (x y : BitVec 5) (z : BitVec 4) (p : Pending) :
    ((s.setCounts x y z).setPend p).inByte = s.inByte := by
  funext a
  simp [State.inByte]
theorem State.setCounts_readIn (s : State) (x y : BitVec 5) (z : BitVec 4) (p : Pending) :
    ((s.setCounts x y z).setPend p).readIn = s.readIn := by
  funext a
  simp [State.readIn, State.setCounts_inByte]
theorem State.setCounts_reader (s : State) (x y : BitVec 5) (z : BitVec 4) (p : Pending) :
    ((s.setCounts x y z).setPend p).reader = s.reader := by simp [State.reader]

/-- The counts written, the code-length code lengths are to come. -/
theorem State.countsRead {s v : State} {top p : Nat} {x y : BitVec 5} {z : BitVec 4} (hx : x.toNat = streamField s.inByte p 5)
    (hy : y.toNat = streamField s.inByte (p + 5) 5) (hz : z.toNat = streamField s.inByte (p + 10) 4) (hinByte : v.inByte = s.inByte)
    (hr : v.reader.StandsAt s.inByte v.inLen.toNat top (p + 14)) (hb : ∀ a, a < v.inLen.toNat → v.readIn a = some (v.inByte a)) :
    s.CountsRead top p ((v.setCounts x y z).setPend (.clLengths 0)) := by
  obtain ⟨hlit, hdist, hclen⟩ := v.setCounts_toNat x y z
  constructor
  case pend => rfl
  case inByte => rw [State.setCounts_inByte, hinByte]
  case readIn => simpa [State.setCounts_inByte, State.setCounts_readIn] using hb
  case standsAt => simpa [State.setCounts_inByte, State.setCounts_reader, hinByte] using hr
  case hlit => rw [State.setPend_hlit, hlit, hx]
  case hdist => rw [State.setPend_hdist, hdist, hy]
  case hclen => rw [State.setPend_hclen, hclen, hz]

theorem toNat_ofNat_streamField (b : Nat → Byte) (p n : Nat) : (BitVec.ofNat n (streamField b p n)).toNat = streamField b p n :=
  (BitVec.toNat_ofNat ..).trans (Nat.mod_eq_of_lt (streamField_lt b p n))

theorem exec_dyn (x y : BitVec 5) (z : BitVec 4) (s : State) :
    exec (.dyn x y z) s = .next ((s.setCounts x y z).setPend (.clLengths 0)) := rfl

theorem thenParts_eq_runParts (run : Instr → State → Host.Outcome State Fault Refusal) (s : State) :
    thenParts run (.next s) = runParts run maxParts s := rfl

section Step

variable {s : State} {top p : Nat} (h : s.Inv) (hscript : s.script = []) (hf : s.fsm = .dynhdr) (htop : top < 2 ^ 32)
  (hstands : s.reader.StandsAt s.inByte s.inLen.toNat top p)
include h hscript hf hstands

include htop in
theorem step_dyn (hfit : p + 14 ≤ 8 * top) : ∃ u, s.CountsRead top p u ∧ step s = runParts exec maxParts u := by
  have hdec := h.decoding (by simp [State.busy, hf, Fsm.running])
  obtain ⟨r, e, hr⟩ := decodeDyn_of_le hdec.readIn hstands hfit
  have hreader : (s.advance.withReader r).reader = r := State.reader_withReader_of_standsAt _ hr htop
  rw [step_of_instr (c := .dyn) hscript (by simp [State.place, h.pend_eq, hf]) e, exec_dyn]
  have hinByte : (s.advance.withReader r).inByte = s.inByte := rfl
  have hinLen : (s.advance.withReader r).inLen = s.inLen := rfl
  have hreadIn : (s.advance.withReader r).readIn = s.readIn := rfl
  generalize s.advance.withReader r = v at *
  refine ⟨_, State.countsRead (toNat_ofNat_streamField ..) (toNat_ofNat_streamField ..) (toNat_ofNat_streamField ..) hinByte ?_ ?_,
    thenParts_eq_runParts exec _⟩
  · rw [hreader, hinLen]
    exact hr
  · rw [hinLen, hreadIn, hinByte]
    exact hdec.readIn

/-- A header cut within its counts: those whose bits were there stand. -/
theorem step_dyn_cut (hcut : 8 * top < p + 14) :
    ∃ t, step s = .next t ∧ t.fsm = .error ∧ t.errCode = 0x06 ∧
      (p + 5 ≤ 8 * top → t.hlit.toNat = streamField s.inByte p 5 + 257) ∧
      (p + 10 ≤ 8 * top → t.hdist.toNat = streamField s.inByte (p + 5) 5 + 1) := by
  have hdec := h.decoding (by simp [State.busy, hf, Fsm.running])
  obtain ⟨r, e⟩ := decodeDyn_of_lt hdec.readIn hstands hcut
  have hlit := streamField_lt s.inByte p 5
  have hdist := streamField_lt s.inByte (p + 5) 5
  refine ⟨_, step_of_raise (c := .dyn) hscript (by simp [State.place, h.pend_eq, hf]) e, rfl, rfl, fun h5 => ?_, fun h10 => ?_⟩
  · rw [if_neg (Nat.not_lt.2 h5)]
    split_ifs
    · exact Nat.mod_eq_of_lt (by omega)
    · exact Nat.mod_eq_of_lt (by omega)
  · rw [if_neg (by omega), if_neg (Nat.not_lt.2 h10)]
    exact Nat.mod_eq_of_lt (by omega)

end Step

/-- CLLEN at the end of a header: the lengths read, and 0 where none was sent (30_encoding.md R67). -/
theorem zeroClLens_clLensRead_getElem? (b : Nat → Byte) (q : Nat) (v : Vector (BitVec 3) 19) {m j : Nat} (hm : m ≤ 19) (hj : j < 19) :
    (zeroClLens (clOrder.drop m) (clLensRead b q v m))[clOrder.getD j 19]? =
      some (BitVec.ofNat 3 (if j < m then streamField b (q + 3 * j) 3 else 0)) := by
  rw [zeroClLens_getElem? _ _ (clOrder_getD_lt j hj), clLensRead_getElem? b q v hm hj]
  simp only [clOrder_getD_mem_drop hj]
  by_cases hlt : j < m
  · rw [if_neg (Nat.not_le.2 hlt), if_pos hlt, if_pos hlt]
  · rw [if_pos (Nat.le_of_not_lt hlt), if_neg hlt]
    rfl

/-! ## The statement -/

/-- Settles O36: the counts, then one part for each code-length code length as far as the input has them. -/
theorem dynamicHeaderStep : Obligations.DynamicHeaderStep := by
  unfold Obligations.DynamicHeaderStep
  intro s h hscript hf p hclen hp hh
  have hstands := hp ▸ (h.decoding (by simp [State.busy, hf, Fsm.running])).standsAt
  have htop := s.max_inLen_ip_lt
  have hhclen : hclen ≤ 19 := by have := streamField_lt s.inByte (p + 10) 4; omega
  rw [State.streamEnd]
  generalize Nat.max s.inLen.toNat s.ip.toNat = top at *
  refine ⟨fun hfit => ?_, fun hcut => ?_⟩
  · obtain ⟨u, hu, hstep⟩ := step_dyn h hscript hf htop hstands (by omega)
    have hsent : u.hclen.toNat = hclen := hu.hclen.trans hh.symm
    obtain ⟨r, hr, hrun⟩ := runParts_clLengths_of_le hu.readIn htop hu.pend hu.standsAt (by omega) (by omega) (fuel := maxParts)
      (le_trans (hsent ▸ hhclen) (by decide))
    rw [hsent] at hr hrun
    have hreader : (u.withReader r).reader = r := u.reader_withReader_of_standsAt hr htop
    refine ⟨_, hstep.trans hrun, ?_, by simp, by simpa using hu.hlit, by simpa using hu.hdist, by simpa using hsent,
      fun i hi => ?_, by simp, by simp, by simp, by simp⟩
    · exact (congrArg Reader.bitPos hreader).trans hr.bitPos_eq
    · rw [← hu.inByte, State.goTo_clLen, State.endDynHeader_clLen, State.afterClls_clLen]
      exact zeroClLens_clLensRead_getElem? u.inByte (p + 14) u.clLen hhclen hi
  · by_cases hcounts : p + 14 ≤ 8 * top
    · obtain ⟨u, hu, hstep⟩ := step_dyn h hscript hf htop hstands hcounts
      have hsent : u.hclen.toNat = hclen := hu.hclen.trans hh.symm
      obtain ⟨m, hm⟩ : ∃ m, m = (8 * top - (p + 14)) / 3 := ⟨_, rfl⟩
      obtain ⟨r, r', hrun⟩ := runParts_clLengths_cut hu.readIn htop hu.pend hu.standsAt (m := m) (by omega) (by omega) (by omega)
        (fuel := maxParts) (lt_of_lt_of_le (by omega : m < 19) (by decide))
      refine ⟨_, hstep.trans hrun, by simp, by simp [ErrorCode.code], fun _ => by simpa using hu.hlit,
        fun _ => by simpa using hu.hdist, fun _ => ⟨by simpa using hsent, fun i hi hle => ?_⟩⟩
      rw [← hu.inByte, State.enterError_clLen, State.withReader_clLen, State.afterClls_clLen]
      exact (clLensRead_getElem? u.inByte (p + 14) u.clLen (by omega) (by omega)).trans (if_pos (by omega))
    · obtain ⟨t, hstep, hfsm, hcode, hlit, hdist⟩ := step_dyn_cut h hscript hf hstands (by omega)
      exact ⟨t, hstep, hfsm, hcode, hlit, hdist, fun hle => absurd hle hcounts⟩

end Sys2Proof.Machine
end

section
/-! PROOFS. How far the reader gets in a step (40_bitreader.md R95, 42_block_decoder.md R123): every element consumes a bit, and none a
bit past the end of the input. -/

namespace Sys2Proof.Machine

/-! ## The reader's bounds -/

/-- The reader has consumed the stream at least up to bit position lo, and IP is not past `top`. -/
structure Reader.Between (lo top : Nat) (r : Reader) : Prop where
  lo_le  : lo + r.cnt ≤ 8 * r.ip
  ip_le  : r.ip ≤ top
  cnt_le : r.cnt ≤ 22

theorem Reader.Between.le_bitPos {lo top : Nat} {r : Reader} (h : r.Between lo top) : lo ≤ r.bitPos := Nat.le_sub_of_add_le h.lo_le

theorem Reader.Between.bitPos_le {lo top : Nat} {r : Reader} (h : r.Between lo top) : r.bitPos ≤ 8 * top :=
  le_trans (Nat.sub_le _ _) (Nat.mul_le_mul_left 8 h.ip_le)

theorem Reader.Between.mono {lo lo' top : Nat} {r : Reader} (h : r.Between lo top) (hle : lo' ≤ lo) : r.Between lo' top :=
  ⟨le_trans (Nat.add_le_add_right hle _) h.lo_le, h.ip_le, h.cnt_le⟩

theorem Reader.Between.byteAlign {lo top : Nat} {r : Reader} (h : r.Between lo top) : r.byteAlign.Between lo top :=
  ⟨le_trans (Nat.add_le_add_left (Nat.zero_le _) _) h.lo_le, h.ip_le, Nat.zero_le _⟩

theorem Reader.Between.eobRewind {lo top : Nat} {r : Reader} (h : r.Between lo top) : r.eobRewind.Between lo top := by
  obtain ⟨hlo, hip, hcnt⟩ := h
  refine ⟨?_, le_trans (Nat.sub_le _ _) hip, le_trans (Nat.mod_le _ _) hcnt⟩
  show lo + r.cnt % 8 ≤ 8 * (r.ip - r.cnt / 8)
  omega

theorem Reader.Between.consume {lo top n : Nat} {r : Reader} (h : r.Between lo top) (hn : n ≤ r.cnt) :
    (r.consume n).Between (lo + n) top := by
  obtain ⟨hlo, hip, hcnt⟩ := h
  exact ⟨show lo + n + (r.cnt - n) ≤ 8 * r.ip by omega, hip, le_trans (Nat.sub_le _ _) hcnt⟩

/-- A running decode is past no bit but those before BP (10_state.md R33). -/
theorem State.Decoding.between {s : State} (h : s.Decoding) :
    s.reader.Between s.reader.bitPos (Nat.max s.inLen.toNat s.ip.toNat) := by
  obtain ⟨hholds, hcnt, -⟩ := h.reader_ok
  exact ⟨hholds.bitPos_add_cnt.le, Nat.le_max_right _ _, hcnt⟩

theorem State.between_withReader (s : State) {lo top : Nat} {r : Reader} (h : r.Between lo top) (htop : top < 2 ^ 32) :
    (s.withReader r).reader.Between lo top := by
  obtain ⟨hlo, hip, hcnt⟩ := h
  constructor <;>
    simp only [State.reader, State.withReader_ip, State.withReader_bitCnt, BitVec.toNat_ofNat] <;> omega

end Sys2Proof.Machine

namespace Sys2Proof

open Sys2Proof.Machine

/-! ## The reads -/

/-- A read that ends has consumed the stream up to lo', or raised and consumed none from lo on. -/
def Machine.Read.Between (lo lo' top : Nat) : Read α → Prop
  | .ok _ r => r.Between lo' top
  | .raise _ r => r.Between lo top
  | .noByte _ => True

def Decoded.Between (lo lo' top : Nat) : Decoded → Prop
  | .instr _ r => r.Between lo' top
  | .raise _ r _ => r.Between lo top
  | .noByte _ => True

/-- A decode that goes on with a read: an error of a later read leaves the earlier ones consumed. -/
theorem Machine.Read.Between.thenDecode {lo lo₁ lo₂ top : Nat} {x : Read α} (h : x.Between lo lo₁ top) (hle : lo ≤ lo₁) {got : List Nat}
    {k : α → Reader → Decoded} (hk : ∀ a r, r.Between lo₁ top → (k a r).Between lo₁ lo₂ top) :
    (x.thenDecode got k).Between lo lo₂ top := by
  cases x with
  | ok a r =>
    have hk := hk a r h
    show (k a r).Between lo lo₂ top
    cases hx : k a r with
    | instr i r' => rwa [hx] at hk
    | raise e r' got' =>
      rw [hx] at hk
      exact Reader.Between.mono hk hle
    | noByte b => trivial
  | raise e r => exact h
  | noByte b => trivial

end Sys2Proof

namespace Sys2Proof.Machine

section Reads

variable {byte : Nat → Option Byte} {len lo top : Nat} {r : Reader}

/-- The refills stop at the end of the input (40_bitreader.md R95). -/
theorem fillTo_between (hlen : len ≤ top) {need : Nat} (hneed : need ≤ 15) (fuel : Nat) (h : r.Between lo top) :
    (fillTo byte len need fuel r).Between lo lo top := by
  induction fuel generalizing r with
  | zero => exact h
  | succ fuel ih =>
    rw [fillTo]
    split_ifs with hc
    · cases byte r.ip with
      | none => trivial
      | some b =>
        obtain ⟨hlo, hip, hcnt⟩ := h
        exact ih ⟨show lo + (r.cnt + 8) ≤ 8 * (r.ip + 1) by omega, show r.ip + 1 ≤ top by omega, show r.cnt + 8 ≤ 22 by omega⟩
    · exact h

theorem readBits_between (hlen : len ≤ top) {n : Nat} (hn : n ≤ 15) (h : r.Between lo top) :
    (readBits byte len n r).Between lo (lo + n) top := by
  have hfill := fillTo_between (byte := byte) hlen hn n h
  unfold readBits
  cases hx : fillTo byte len n n r with
  | ok _ r' =>
    rw [hx] at hfill
    show Read.Between _ _ _ (if r'.cnt < n then _ else _)
    split_ifs with hc
    · exact hfill
    · exact Reader.Between.consume hfill (Nat.le_of_not_lt hc)
  | raise e r' => rwa [hx] at hfill
  | noByte a => trivial

/-- A code is at least one bit long (40_bitreader.md R92). -/
theorem readCode_between (hlen : len ≤ top) (t : Table) (h : r.Between lo top) : (readCode byte len t r).Between lo (lo + 1) top := by
  have hmax := t.max.isLt
  have hfill := fillTo_between (byte := byte) hlen (need := t.max.toNat) (by omega) t.max.toNat h
  cases hx : fillTo byte len t.max.toNat t.max.toNat r with
  | ok _ r' =>
    rw [hx] at hfill
    rw [readCode_of_fillTo hx]
    split_ifs with hzero hc
    · exact hfill
    · exact hfill
    · exact (Reader.Between.consume hfill (Nat.le_of_not_lt hc)).mono (by omega)
  | raise e r' =>
    simp only [readCode, hx]
    rwa [hx] at hfill
  | noByte a => simp only [readCode, hx, Read.Between]

/-! ## The elements -/

variable {b : Nat → Byte}

theorem decodeZhdr_between (hb : ∀ a, a < len → byte a = some (b a)) (hlen : len ≤ top) (h : r.Between lo top) :
    (decodeZhdr byte len r).Between lo (lo + 1) top := by
  by_cases hfit : r.ip + 2 ≤ len
  · obtain ⟨hlo, -, hcnt⟩ := h
    rw [decodeZhdr_of_le hb hfit]
    exact ⟨show lo + 1 + r.cnt ≤ 8 * (r.ip + 2) by omega, le_trans hfit hlen, hcnt⟩
  · rw [decodeZhdr, if_pos (Nat.lt_of_not_le hfit)]
    exact h

theorem decodeStored_between (hb : ∀ a, a < len → byte a = some (b a)) (hlen : len ≤ top) (h : r.Between lo top) :
    (decodeStored byte len r).Between lo (lo + 1) top := by
  by_cases hfit : r.ip + 4 ≤ len
  · obtain ⟨hlo, -, -⟩ := h
    rw [decodeStored_of_le hb hfit]
    exact ⟨show lo + 1 + 0 ≤ 8 * (r.ip + 4) by omega, le_trans hfit hlen, Nat.zero_le _⟩
  · rw [decodeStored, if_pos (Nat.lt_of_not_le hfit)]
    exact h.byteAlign

theorem decodeTrailer_between (hb : ∀ a, a < len → byte a = some (b a)) (hlen : len ≤ top) (h : r.Between lo top) :
    (decodeTrailer byte len r).Between lo (lo + 1) top := by
  by_cases hfit : r.ip + 4 ≤ len
  · obtain ⟨hlo, -, -⟩ := h
    rw [decodeTrailer_of_le hb hfit]
    exact ⟨show lo + 1 + 0 ≤ 8 * (r.ip + 4) by omega, le_trans hfit hlen, Nat.zero_le _⟩
  · rw [decodeTrailer, if_pos (Nat.lt_of_not_le hfit)]
    exact h.byteAlign

theorem decodeData_between (hb : ∀ a, a < len → byte a = some (b a)) (hlen : len ≤ top) (h : r.Between lo top) (hlt : r.ip < len) :
    (decodeData byte r).Between lo (lo + 1) top := by
  obtain ⟨hlo, -, hcnt⟩ := h
  rw [decodeData_of_lt hb hlt]
  exact ⟨show lo + 1 + r.cnt ≤ 8 * (r.ip + 1) by omega, le_trans hlt hlen, hcnt⟩

theorem decodeBlock_between (hlen : len ≤ top) (h : r.Between lo top) : (decodeBlock byte len r).Between lo (lo + 1) top := by
  refine (readBits_between hlen (by omega) h).thenDecode (by omega) fun f r₁ h₁ => ?_
  exact (readBits_between hlen (by omega) h₁).thenDecode (by omega) fun t r₂ h₂ => h₂.mono (by omega)

theorem decodeDyn_between (hlen : len ≤ top) (h : r.Between lo top) : (decodeDyn byte len r).Between lo (lo + 1) top := by
  refine (readBits_between hlen (by omega) h).thenDecode (by omega) fun x r₁ h₁ => ?_
  refine (readBits_between hlen (by omega) h₁).thenDecode (by omega) fun y r₂ h₂ => ?_
  exact (readBits_between hlen (by omega) h₂).thenDecode (by omega) fun z r₃ h₃ => h₃.mono (by omega)

theorem decodeCll_between (hlen : len ≤ top) (h : r.Between lo top) : (decodeCll byte len r).Between lo (lo + 1) top :=
  (readBits_between hlen (by omega) h).thenDecode (by omega) fun _ _ h₁ => h₁.mono (by omega)

theorem extraBits_between (hlen : len ≤ top) {n : Nat} (hn : n ≤ 15) (i : Nat → Instr) (h : r.Between lo top) :
    ((readBits byte len n r).thenDecode [] fun e r => .instr (i e) r).Between lo lo top :=
  (readBits_between hlen hn h).thenDecode (by omega) fun _ _ h₁ => h₁.mono (by omega)

/-- A code and the extra bits of its symbol. -/
theorem codeThenBits_between (hlen : len ≤ top) (t : Table) {n : Nat → Nat} (hn : ∀ sym, n sym ≤ 15) (i : Nat → Nat → Instr)
    (h : r.Between lo top) :
    ((readCode byte len t r).thenDecode [] fun sym r => (readBits byte len (n sym) r).thenDecode [] fun e r =>
      .instr (i sym e) r).Between lo (lo + 1) top :=
  (readCode_between hlen t h).thenDecode (by omega) fun sym _ h₁ => extraBits_between hlen (hn sym) (i sym) h₁

/-- A distance: where its code selects an empty slot it may consume none, the length before it did (42_block_decoder.md R123). -/
theorem decodeDist_between (hlen : len ≤ top) (fixed : Bool) (t : Table) (h : r.Between lo top) :
    (decodeDist byte len fixed t r).Between lo lo top := by
  have hcode := readCode_between (byte := byte) hlen t h
  unfold decodeDist
  cases hx : readCode byte len t r with
  | ok d r₁ =>
    rw [hx] at hcode
    have hr₁ : r₁.Between lo top := Reader.Between.mono hcode (by omega)
    by_cases hd : 30 ≤ d
    · simp only [if_pos hd]
      exact hr₁
    · simp only [if_neg hd]
      exact extraBits_between hlen (le_trans (Laws.EncodingFits.distanceExtraBits_le d) (by decide)) _ hr₁
  | raise e r₁ =>
    rw [hx] at hcode
    show (decodeEmptyDistance e fixed r₁).Between lo lo top
    unfold decodeEmptyDistance
    split_ifs <;> exact hcode
  | noByte a => trivial

/-- The bits every element of a place consumes at least. -/
def leastBits : Ctx → Nat
  | .dist _ _ => 0
  | _ => 1

/-- Every element consumes its least bits, or raises; a data byte is to be there. -/
theorem decode_between (c : Ctx) (hb : ∀ a, a < len → byte a = some (b a)) (hlen : len ≤ top) (h : r.Between lo top)
    (hdata : c = .data → r.ip < len) : (decode c byte len r).Between lo (lo + leastBits c) top := by
  cases c with
  | zhdr => exact decodeZhdr_between hb hlen h
  | block => exact decodeBlock_between hlen h
  | stored => exact decodeStored_between hb hlen h
  | data => exact decodeData_between hb hlen h (hdata rfl)
  | dyn => exact decodeDyn_between hlen h
  | cll => exact decodeCll_between hlen h
  | cl t => exact codeThenBits_between hlen t clExtraBits_le _ h
  | litLen fixed t => exact codeThenBits_between hlen t litLenExtraBits_le _ h
  | dist fixed t => exact decodeDist_between hlen fixed t h
  | trailer => exact decodeTrailer_between hb hlen h

end Reads

end Sys2Proof.Machine
end

section
/-! PROOFS. The elements' effect on the reader and on S, and the step's: ElementsConsumeStreamBits (42_block_decoder.md R123,
40_bitreader.md R95). -/

namespace Sys2Proof.Machine

/-! ## What an operation leaves as it was -/

/-- Where an operation goes on, and where it raises, f of the state is x. -/
def Res.Leaves (f : State → β) (x : β) : Res → Prop
  | .ok t => f t = x
  | .raise _ t => f t = x
  | .fault _ => True

theorem Res.Leaves.andThen {f : State → β} {x : β} {y : Res} (h : y.Leaves f x) {k : State → Res}
    (hk : ∀ t, f t = x → (k t).Leaves f x) : (y.andThen k).Leaves f x :=
  match y, h with
  | .ok t, h => hk t h
  | .raise _ _, h => h
  | .fault _, _ => trivial

/-- f does not look at the output cursor, OUT, CAP, or the part left. -/
def IgnoresOutput (f : State → β) : Prop :=
  ∀ s c m o p, f { s with cap := c, outMem := m, op := o, pend := p } = f s

theorem ignoresOutput_reader : IgnoresOutput State.reader := fun _ _ _ _ _ => rfl

theorem ignoresOutput_fsm : IgnoresOutput State.fsm := fun _ _ _ _ _ => rfl

section Output

variable {f : State → β} (hf : IgnoresOutput f)
include hf

theorem State.setPend_leaves (s : State) (p : Pending) : f (s.setPend p) = f s := hf s s.cap s.outMem s.op p

theorem State.grow_leaves (s : State) (required : Nat) (ratio : Option Nat) : (s.grow required ratio).Leaves f (f s) := by
  unfold State.grow
  split_ifs
  · rfl
  · rfl
  · exact hf s _ s.outMem s.op s.pend

theorem State.emit_leaves (s : State) (b : Byte) : (s.emit b).Leaves f (f s) := by
  unfold State.emit
  split_ifs
  · exact hf s s.cap _ _ s.pend
  · trivial

theorem copyForward_leaves (dist n : Nat) (s : State) : (copyForward dist n s).Leaves f (f s) := by
  induction n generalizing s with
  | zero => rfl
  | succ n ih =>
    rw [copyForward]
    split_ifs
    · exact (State.emit_leaves hf s _).andThen fun t ht => ht ▸ ih t
    · trivial

theorem literalByte_leaves (v : BitVec 8) (s : State) : (literalByte v s).Leaves f (f s) := by
  rw [literalByte, s.growForLiteral_eq]
  exact (State.grow_leaves hf s _ _).andThen fun t ht => ht ▸ State.emit_leaves hf t v

theorem copyMatch_leaves (dist : Nat) (s : State) : (copyMatch dist s).Leaves f (f s) := by
  unfold copyMatch
  split_ifs
  · rfl
  · refine (State.grow_leaves hf s _ _).andThen fun t ht => ?_
    rw [← ht]
    exact (copyForward_leaves hf dist _ t).andThen fun u hu => hu ▸ State.setPend_leaves hf u .none

end Output

/-! ## What the elements leave of the reader -/

/-- A part of a step that ends has the reader past lo, and not past `top`. -/
def EndsBetween (lo top : Nat) (x : Host.Outcome State Fault Refusal) : Prop := ∀ t, x = .next t → t.reader.Between lo top

theorem EndsBetween.next {lo top : Nat} {t : State} (h : t.reader.Between lo top) : EndsBetween lo top (.next t) := by
  rintro _ ⟨⟩
  exact h

section Elements

variable {lo top : Nat} {s : State} (h : s.reader.Between lo top)
include h

theorem Res.Leaves.endsBetween {x : Res} (hx : x.Leaves State.reader s.reader) : EndsBetween lo top x.finish := by
  cases x with
  | ok t => exact .next ((show t.reader = s.reader from hx) ▸ h)
  | raise e t => exact .next ((show t.reader = s.reader from hx) ▸ h)
  | fault f => exact fun _ ht => nomatch ht

omit h in
theorem zlibHeader_leaves_reader (cmf flg : BitVec 8) (s : State) : (zlibHeader cmf flg s).Leaves State.reader s.reader := by
  unfold zlibHeader
  split_ifs <;> rfl

theorem exec_blockOf_between (f t : Nat) : EndsBetween lo top (exec (blockOf f t) s) := by
  unfold blockOf
  split_ifs <;> exact .next h

omit h in
theorem storedHeader_leaves_reader (len nlen : BitVec 16) (s : State) : (storedHeader len nlen s).Leaves State.reader s.reader := by
  unfold storedHeader
  split_ifs
  · rfl
  · rfl
  · refine (State.grow_leaves ignoresOutput_reader s _ _).andThen fun t ht => ?_
    show (t.beginData len.toNat).reader = s.reader
    unfold State.beginData
    split_ifs <;> exact ht

omit h in
theorem storedByte_leaves_reader (b : BitVec 8) (s : State) : (storedByte b s).Leaves State.reader s.reader := by
  refine (State.emit_leaves ignoresOutput_reader s b).andThen fun t ht => ?_
  show t.nextData.reader = s.reader
  unfold State.nextData
  split_ifs <;> exact ht

theorem exec_cll_between (l : BitVec 3) : EndsBetween lo top (exec (.cll l) s) := by
  show EndsBetween lo top (.next ((s.setClLen _ l).nextCll _))
  unfold State.nextCll
  split_ifs <;> exact .next (by simpa [State.reader] using h)

omit h in
theorem putLens_endClStep_reader (s : State) (n : Nat) (v prev : BitVec 4) : (s.putLens n v prev).endClStep.reader = s.reader := by
  unfold State.endClStep
  split_ifs <;> rfl

theorem exec_clSymbol_between {i : Instr} (hi : i.clSymbol.isSome) : EndsBetween lo top (exec i s) := by
  obtain ⟨p, hi⟩ := Option.isSome_iff_exists.1 hi
  rcases exec_of_clSymbol hi s with ⟨v, e⟩ | ⟨n, v, e⟩
  · rw [e]
    exact .next ((putLens_endClStep_reader s 1 v v).symm ▸ h)
  · rw [e]
    refine Res.Leaves.endsBetween h ?_
    unfold repeatLength
    split_ifs
    · rfl
    · exact putLens_endClStep_reader s n v v

theorem exec_litLen_between (htop : top < 2 ^ 32) {i : Instr} (hi : i.isLitLen) : EndsBetween lo top (exec i s) := by
  have hrewind : EndsBetween lo top (.next (endOfBlock s)) := .next (s.between_withReader h.eobRewind htop)
  rcases hi with hi | rfl | rfl | hi
  · obtain ⟨v, hi⟩ := Option.isSome_iff_exists.1 hi
    rw [exec_of_literalOf hi]
    exact (literalByte_leaves ignoresOutput_reader v s).endsBetween h
  · exact hrewind
  · exact hrewind
  · obtain ⟨n, hi⟩ := Option.isSome_iff_exists.1 hi
    rw [exec_of_lengthOf hi]
    exact .next h

theorem exec_dist_between {i : Instr} (hi : i.isDist) : EndsBetween lo top (exec i s) := by
  rcases hi with hi | ⟨d, rfl⟩ | rfl | rfl
  · obtain ⟨d, hi⟩ := Option.isSome_iff_exists.1 hi
    rw [exec_of_distanceOf hi]
    exact (copyMatch_leaves ignoresOutput_reader d s).endsBetween h
  all_goals exact .next h

omit h in
theorem finishDecode_leaves_reader (s : State) : (finishDecode s).Leaves State.reader s.reader := by
  unfold finishDecode
  split_ifs
  · rfl
  · rfl
  · trivial

omit h in
theorem checkTrailer_leaves_reader (w : Word) (s : State) : (checkTrailer w s).Leaves State.reader s.reader := by
  unfold checkTrailer
  split_ifs <;> rfl

/-- What an element does with its bits moves the reader no further; the end of a block gives whole bytes back (40_bitreader.md R94). -/
theorem exec_element_between (htop : top < 2 ^ 32) {i : Instr} (hi : i.IsElement) : EndsBetween lo top (exec i s) := by
  cases hi with
  | zhdr cmf flg => exact (zlibHeader_leaves_reader cmf flg s).endsBetween h
  | block f t => exact exec_blockOf_between h f t
  | lenNlen len nlen => exact (storedHeader_leaves_reader len nlen s).endsBetween h
  | data b => exact (storedByte_leaves_reader b s).endsBetween h
  | dyn hlit hdist hclen => exact .next (by simpa [State.reader] using h)
  | cll l => exact exec_cll_between h l
  | codeLength hi => exact exec_clSymbol_between h hi
  | litLen hi => exact exec_litLen_between h htop hi
  | dist hi => exact exec_dist_between h hi
  | trailer w => exact (checkTrailer_leaves_reader w s).endsBetween h

theorem exec_internalStep_between (hp : s.pend ≠ .startStep) {i : Instr} (hi : s.internalStep = some i) :
    EndsBetween lo top (exec i s) := by
  unfold State.internalStep at hi
  split at hi
  case h_1 hp' => exact absurd hp' hp
  case h_2 =>
    cases hi
    exact .next h
  case h_3 =>
    cases hi
    exact (finishDecode_leaves_reader s).endsBetween h
  case h_4 => cases hi

end Elements

/-! ## The parts and the step -/

theorem State.keepRead_reader (s : State) (c : Ctx) (got : List Nat) : (s.keepRead c got).reader = s.reader := by
  unfold State.keepRead
  split <;> rfl

/-- A part left to run that is not the START step is a part of a running decode. -/
theorem State.MidStep.decoding {s : State} {n : Nat} (h : s.MidStep n) (hp : s.pend ≠ .none) (hstart : s.pend ≠ .startStep) :
    s.Decoding := by
  unfold State.MidStep at h
  cases hp' : s.pend <;> simp only [hp'] at h hp hstart
  case none => exact absurd rfl hp
  case startStep => exact absurd rfl hstart
  all_goals exact h.1

/-- A data byte left to copy is there. -/
theorem State.MidStep.ip_lt_of_data {s : State} {n : Nat} (h : s.MidStep n) (hc : s.place = some .data) : s.ip.toNat < s.inLen.toNat := by
  unfold State.MidStep at h
  cases hp : s.pend <;> simp only [hp] at h
  case storedData k =>
    obtain ⟨-, -, hk, -, -, hip, -⟩ := h
    omega
  case none => cases hf : s.fsm <;> simp [State.place, hp, hf] at hc
  all_goals simp [State.place, hp] at hc

section Parts

variable {lo top : Nat} {s : State} (hs : s.Decoding) (hlen : s.inLen.toNat ≤ top) (htop : top < 2 ^ 32) (h : s.reader.Between lo top)
include hs hlen htop h

/-- A part that reads an element consumes its bits, or ends the step in ERROR. -/
theorem runPart_consumes {c : Ctx} (hc : s.place = some c) (hdata : c = .data → s.ip.toNat < s.inLen.toNat) {t : State}
    (hrun : runPart exec s = .next t) :
    t.reader.Between (lo + leastBits c) top ∨ (t.reader.Between lo top ∧ t.fsm = .error ∧ t.pend = .none) := by
  have hbetween := decode_between c hs.readIn hlen h hdata
  have hnames := decode_namesElement c s.readIn s.inLen.toNat s.reader
  cases hd : decode c s.readIn s.inLen.toNat s.reader with
  | instr i r =>
    rw [hd] at hbetween hnames
    rw [runPart_instr exec hc hd] at hrun
    exact .inl (exec_element_between (s.between_withReader hbetween htop) htop hnames t hrun)
  | raise e r got =>
    rw [hd] at hbetween
    rw [runPart_raise exec hc hd] at hrun
    cases hrun
    refine .inr ⟨?_, rfl, rfl⟩
    show ((s.withReader r).keepRead c got).reader.Between lo top
    rw [State.keepRead_reader]
    exact s.between_withReader hbetween htop
  | noByte a =>
    simp only [runPart, State.fetch, hc, State.fetchAt, hd, Res.finish] at hrun
    cases hrun

theorem runPart_between (hstart : s.pend ≠ .startStep) (hdata : s.place = some .data → s.ip.toNat < s.inLen.toNat) :
    EndsBetween lo top (runPart exec s) := by
  intro t hrun
  cases hc : s.place with
  | some c =>
    rcases runPart_consumes hs hlen htop h hc (fun hd => hdata (hd ▸ hc)) hrun with hbetween | ⟨hbetween, -⟩
    · exact hbetween.mono (Nat.le_add_right ..)
    · exact hbetween
  | none =>
    cases hi : s.internalStep with
    | some i =>
      rw [runPart_internal exec hc hi] at hrun
      exact exec_internalStep_between h hstart hi t hrun
    | none =>
      simp only [runPart, State.fetch, hc, hi, Res.finish] at hrun
      cases hrun

end Parts

/-- What a part leaves as it was: IN_LEN, and no START step is to come. -/
theorem State.Decoding.runPart_inLen {s t : State} (hs : s.Decoding) (hstart : s.pend ≠ .startStep) (hrun : runPart exec s = .next t) :
    t.inLen = s.inLen ∧ t.pend ≠ .startStep := by
  have hcont := runPart_continues hs.1.outMemSize_le hstart t hrun
  exact ⟨congrArg EngineConst.inLen hcont.const, hcont.no_start hstart⟩

/-- The parts left take the reader no further back than lo, and not past the end of the input. -/
theorem runParts_between {lo top : Nat} (htop : top < 2 ^ 32) (n : Nat) {s : State} (hmid : s.MidStep n) (hstart : s.pend ≠ .startStep)
    (hlen : s.inLen.toNat ≤ top) (h : s.reader.Between lo top) : EndsBetween lo top (runParts exec n s) := by
  induction n generalizing s with
  | zero => exact .next h
  | succ n ih =>
    by_cases hp : s.pend = .none
    · rw [runParts_done hp]
      exact .next h
    · have hs := hmid.decoding hp hstart
      obtain ⟨u, e, hu⟩ := hmid.runPart hp
      obtain ⟨hinLen, hstart'⟩ := hs.runPart_inLen hstart e
      rw [runParts_succ exec hp, e]
      exact ih hu hstart' (hinLen ▸ hlen) (runPart_between hs hlen htop h hstart hmid.ip_lt_of_data u e)

/-! ## The statements -/

/-- The first part of a running engine's step, and the parts after it. -/
theorem State.Inv.exists_runPart {s t : State} (h : s.Inv) (hscript : s.script = []) (hb : s.busy = true) (hstep : step s = .next t) :
    ∃ u, Machine.runPart exec s.advance = .next u ∧ u.MidStep maxParts ∧ runParts exec maxParts u = .next t := by
  obtain ⟨u, e, hu⟩ := State.Inv.runPart (s := s.advance) h hb (n := maxParts) (by decide)
  rw [step_engine hscript, e] at hstep
  exact ⟨u, e, hu, hstep⟩

/-- Where S names an element, its place needs at least one bit. -/
theorem State.Inv.exists_place {s : State} (h : s.Inv) (hb : s.busy = true) (hbuild : s.fsm ≠ .dynbuild) (hfin : s.fsm ≠ .finish) :
    ∃ c, s.place = some c ∧ leastBits c = 1 ∧ c ≠ .data := by
  cases hf : s.fsm with
  | idle | done | error => simp [State.busy, hf, Fsm.running] at hb
  | dynbuild => exact absurd hf hbuild
  | finish => exact absurd hf hfin
  | _ => simp [State.place, h.pend_eq, hf, leastBits]

/-- Settles O7: the first part consumes the bits of its element or raises, and the parts after it never go back. -/
theorem elementsConsumeStreamBits : Obligations.ElementsConsumeStreamBits := by
  unfold Obligations.ElementsConsumeStreamBits
  intro s t h hscript hb hstep
  obtain ⟨u, e, hmid, hrun⟩ := h.exists_runPart hscript hb hstep
  have hs : s.advance.Decoding := h.decoding hb
  have hstart : s.advance.pend ≠ .startStep := by simp [h.pend_eq]
  obtain ⟨hinLen, hstart'⟩ := hs.runPart_inLen hstart e
  have htop := s.max_inLen_ip_lt
  have hlen : s.inLen.toNat ≤ Nat.max s.inLen.toNat s.ip.toNat := Nat.le_max_left _ _
  have hrest {lo : Nat} (hu : u.reader.Between lo (Nat.max s.inLen.toNat s.ip.toNat)) :=
    runParts_between htop maxParts hmid hstart' (hinLen ▸ hlen) hu t hrun
  have hfirst := runPart_between hs hlen htop hs.between hstart (fun hc => ?_) u e
  · refine ⟨(hrest hfirst).le_bitPos, (hrest hfirst).bitPos_le, fun hbuild hfin herr => ?_⟩
    obtain ⟨c, hc, hleast, hdata⟩ := h.exists_place hb hbuild hfin
    rcases runPart_consumes hs hlen htop hs.between (c := c) hc (fun hd => absurd hd hdata) e with hu | ⟨-, hf, hp⟩
    · exact (hleast ▸ hrest hu).le_bitPos
    · rw [runParts_done hp] at hrun
      cases hrun
      exact absurd hf herr
  · cases hf : s.fsm <;> simp [State.place, h.pend_eq, hf] at hc

end Sys2Proof.Machine
end

section
/-! PROOFS. The order of the states of S in a decode (42_block_decoder.md R121, R122), and its end (R123, 70_reset_and_hazards.md
R215). -/

namespace Sys2Proof.Machine

/-! ## The step of a running engine -/

/-- Settles O5: a running engine's parts all end, and a stopped one fetches nothing. -/
theorem runningEngineTakesAStep : Obligations.RunningEngineTakesAStep := by
  unfold Obligations.RunningEngineTakesAStep
  intro s h hscript
  have hstep : step s = engineStep exec s := step_engine hscript
  refine ⟨fun hb => ?_, fun hb => hstep.trans (engineStep_of_stopped hb h.pend_eq)⟩
  obtain ⟨t, e, -⟩ := h.engineStep hb
  exact ⟨t, hstep.trans e⟩

/-- An element read at a place, if the step does not end in ERROR, is one of those the place is for. -/
theorem exists_instr_of_step {s t : State} {c : Ctx} {P : Instr → Reader → Prop} (hs : s.Decoding) (hscript : s.script = [])
    (hc : s.place = some c) (hd : (decode c s.readIn s.inLen.toNat s.reader).Meets s.inByte s.readTop P) (hstep : step s = .next t)
    (herr : t.fsm ≠ .error) :
    ∃ i u, (∃ r, P i r ∧ u = s.advance.withReader r) ∧ u.Decoding ∧ thenParts exec (exec i u) = .next t := by
  cases hx : decode c s.readIn s.inLen.toNat s.reader with
  | instr i r =>
    rw [hx] at hd
    rw [step_of_instr hscript hc hx] at hstep
    exact ⟨i, _, ⟨r, hd.2, rfl⟩, State.Decoding.withReader (s := s.advance) hs hd.1, hstep⟩
  | raise e r got =>
    rw [step_of_raise hscript hc hx] at hstep
    cases hstep
    exact absurd rfl herr
  | noByte a =>
    rw [hx] at hd
    exact hd.elim

/-- An operation that leaves S ends in ERROR or with S as it was. -/
theorem Res.Leaves.fsm_finish {x : Res} {f : Fsm} (hx : x.Leaves State.fsm f) {u : State} (h : x.finish = .next u) :
    u.fsm = .error ∨ u.fsm = f := by
  cases x with
  | ok t =>
    cases h
    exact .inr hx
  | raise e t =>
    cases h
    exact .inl rfl
  | fault f => cases h

/-- A first part that leaves nothing to do is the whole step. -/
theorem EndsMidStep.thenParts {x : Host.Outcome State Fault Refusal} (h : EndsMidStep 0 x) : thenParts exec x = x := by
  obtain ⟨u, rfl, hu⟩ := h
  exact thenParts_next hu.inv.pend_eq

/-! ## CLENS -/

theorem State.putLens_endClStep_fsm (s : State) (n : Nat) (v prev : BitVec 4) :
    (s.putLens n v prev).endClStep.fsm =
      if (s.putLens n v prev).endClStep.clIdx.toNat = s.hlit.toNat + s.hdist.toNat then .dynbuild else s.fsm := by
  unfold State.endClStep
  by_cases hc : (s.putLens n v prev).clIdx.toNat = (s.putLens n v prev).hlit.toNat + (s.putLens n v prev).hdist.toNat
  · rw [if_pos hc]
    exact (if_pos hc).symm
  · rw [if_neg hc]
    exact (if_neg hc).symm

/-- A code-length symbol ends CLENS with the last code length (R115 to R118). -/
theorem exec_clSymbol_fsm {i : Instr} (hi : i.clSymbol.isSome) {s u : State} (h : exec i s = .next u) :
    u.fsm = .error ∨ u.fsm = if u.clIdx.toNat = s.hlit.toNat + s.hdist.toNat then .dynbuild else s.fsm := by
  obtain ⟨p, hi⟩ := Option.isSome_iff_exists.1 hi
  rcases exec_of_clSymbol hi s with ⟨v, e⟩ | ⟨n, v, e⟩
  · rw [e] at h
    cases h
    exact .inr (s.putLens_endClStep_fsm 1 v v)
  · rw [e] at h
    unfold repeatLength at h
    split_ifs at h
    · cases h
      exact .inl rfl
    · cases h
      exact .inr (s.putLens_endClStep_fsm n v v)

theorem step_clens_fsm {s t : State} (h : s.Inv) (hscript : s.script = []) (hf : s.fsm = .clens) (hstep : step s = .next t)
    (herr : t.fsm ≠ .error) : t.fsm = if t.clIdx.toNat = s.hlit.toNat + s.hdist.toNat then .dynbuild else .clens := by
  have hs := h.decoding (by simp [State.busy, hf, Fsm.running])
  obtain ⟨-, -, -, -, -, ⟨-, -, hidx⟩, -, hp⟩ := id h
  obtain ⟨i, u, ⟨r, hi, rfl⟩, hu, hrun⟩ := exists_instr_of_step hs hscript (c := .cl s.clt) (by simp [State.place, hp, hf])
    (decodeCl_meets hs.readIn (Nat.le_max_left _ _) _ hs.reader_ok) hstep herr
  have hmid : EndsMidStep 0 (exec i _) := exec_clSymbol_midStep hu hf hp (hidx hf) hi 0
  rw [hmid.thenParts] at hrun
  rcases exec_clSymbol_fsm hi hrun with herr' | hfsm
  · exact absurd herr' herr
  · exact hfsm.trans (if_congr Iff.rfl rfl hf)

/-! ## BODY -/

/-- A distance stays in BODY (R143). -/
theorem exec_dist_fsm {i : Instr} (hi : i.isDist) {s u : State} (h : exec i s = .next u) : u.fsm = .error ∨ u.fsm = s.fsm := by
  rcases hi with hi | ⟨d, rfl⟩ | rfl | rfl
  · obtain ⟨d, hi⟩ := Option.isSome_iff_exists.1 hi
    rw [exec_of_distanceOf hi] at h
    exact (copyMatch_leaves ignoresOutput_fsm d s).fsm_finish h
  all_goals
    cases h
    exact .inl rfl

/-- The distance part of a step, with the whole match copied or in ERROR. -/
theorem runParts_distance_fsm {s t : State} (hs : s.Decoding) (hf : s.fsm = .body) {k : Nat} (hp : s.pend = .distance k)
    (hrun : runParts exec maxParts s = .next t) : t.fsm = .error ∨ t.fsm = .body := by
  have hne : s.pend ≠ .none := by rw [hp]; nofun
  have hmid : s.MidStep 1 := by
    simp only [State.MidStep, hp]
    exact ⟨hs, hf, le_rfl⟩
  obtain ⟨u, e, hu⟩ := hmid.runPart hne
  have ht : thenParts exec (.next s) = .next u := thenParts_one hne e hu.inv.pend_eq
  cases ht.symm.trans hrun
  have hc : s.place = some (.dist s.fixedBody s.distt) := by simp [State.place, hp]
  have hd := decodeDist_meets hs.readIn (Nat.le_max_left _ _) s.fixedBody s.distt hs.reader_ok
  cases hx : decode (.dist s.fixedBody s.distt) s.readIn s.inLen.toNat s.reader with
  | instr i r =>
    rw [show decodeDist _ _ _ _ _ = _ from hx] at hd
    rw [runPart_instr exec hc hx] at e
    exact (exec_dist_fsm hd.2 e).imp_right fun hfsm => hfsm.trans hf
  | raise err r got =>
    rw [runPart_raise exec hc hx] at e
    cases e
    exact .inl rfl
  | noByte a =>
    rw [show decodeDist _ _ _ _ _ = _ from hx] at hd
    exact hd.elim

/-- A symbol of the body, with its distance if it is a length, stays in BODY or ends the block. -/
theorem thenParts_litLen_fsm {s t : State} (hs : s.Decoding) (hf : s.fsm = .body) (hp : s.pend = .none) {i : Instr} (hi : i.isLitLen)
    (hrun : thenParts exec (exec i s) = .next t) :
    t.fsm = .error ∨ t.fsm = .body ∨ t.fsm = if s.bfinal = 1 then .finish else .bhdr := by
  have hend : thenParts exec (.next (endOfBlock s)) = .next t → t.fsm = if s.bfinal = 1 then .finish else .bhdr := by
    rw [thenParts_next (endOfBlock_midStep hs 0).inv.pend_eq]
    rintro ⟨⟩
    rfl
  rcases hi with hi | rfl | rfl | hi
  · obtain ⟨v, hi⟩ := Option.isSome_iff_exists.1 hi
    rw [exec_of_literalOf hi, show literal v s = (literalByte v s).finish from rfl, (literalByte_keeps hs hf hp v 0).finish.thenParts]
      at hrun
    exact ((literalByte_leaves ignoresOutput_fsm v s).fsm_finish hrun).imp_right fun hfsm => .inl (hfsm.trans hf)
  · exact .inr (.inr (hend hrun))
  · exact .inr (.inr (hend hrun))
  · obtain ⟨k, hi⟩ := Option.isSome_iff_exists.1 hi
    rw [exec_of_lengthOf hi] at hrun
    exact (runParts_distance_fsm (s := s.setPend (.distance k)) hs hf rfl hrun).imp_right .inl

theorem step_body_fsm {s t : State} (h : s.Inv) (hscript : s.script = []) (hf : s.fsm = .body) (hstep : step s = .next t)
    (herr : t.fsm ≠ .error) : t.fsm = .body ∨ t.fsm = if s.bfinal = 1 then .finish else .bhdr := by
  have hs := h.decoding (by simp [State.busy, hf, Fsm.running])
  obtain ⟨i, u, ⟨r, hi, rfl⟩, hu, hrun⟩ := exists_instr_of_step hs hscript (c := .litLen s.fixedBody s.litt)
    (by simp [State.place, h.pend_eq, hf]) (decodeLitLen_meets hs.readIn (Nat.le_max_left _ _) _ _ hs.reader_ok) hstep herr
  exact (thenParts_litLen_fsm hu hf h.pend_eq hi hrun).resolve_left herr

/-! ## The other states -/

section Transitions

variable {s t : State} (h : s.Inv) (hscript : s.script = []) (hstep : step s = .next t) (herr : t.fsm ≠ .error)
include h hscript hstep herr

theorem step_zhdr_fsm (hf : s.fsm = .zhdr) : t.fsm = .bhdr := by
  have hspec := hstep.symm.trans (zlibHeaderStep s h hscript hf)
  split_ifs at hspec <;> cases hspec
  case neg => rfl
  all_goals exact absurd rfl herr

theorem step_bhdr_fsm (hf : s.fsm = .bhdr) :
    (t.btype = 0 ∧ t.fsm = .stored) ∨ (t.btype = 1 ∧ t.fsm = .body ∧ t.litt = flit ∧ t.distt = fdist) ∨
      (t.btype = 2 ∧ t.fsm = .dynhdr) := by
  obtain ⟨hfit, hcut⟩ := blockHeaderStep s h hscript hf
  by_cases hle : s.reader.bitPos + 3 ≤ s.streamEnd
  · obtain ⟨t', hstep', -, -, -, hstored, hfixed, hdyn, hbad⟩ := hfit hle
    cases hstep'.symm.trans hstep
    have hcases : ∀ b : BitVec 2, b = 0 ∨ b = 1 ∨ b = 2 ∨ b = 3 := by decide
    rcases hcases t.btype with hb | hb | hb | hb
    · exact .inl ⟨hb, hstored hb⟩
    · exact .inr (.inl ⟨hb, hfixed hb⟩)
    · exact .inr (.inr ⟨hb, hdyn hb⟩)
    · exact absurd (hbad hb).1 herr
  · obtain ⟨t', hstep', hfsm, -⟩ := hcut (Nat.lt_of_not_le hle)
    cases hstep'.symm.trans hstep
    exact absurd hfsm herr

theorem step_stored_fsm (hf : s.fsm = .stored) : t.fsm = if s.bfinal = 1 then .finish else .bhdr := by
  obtain ⟨len, hlen⟩ : ∃ len : BitVec 16, len = s.inByte (s.ip.toNat + 1) ++ s.inByte s.ip.toNat := ⟨_, rfl⟩
  obtain ⟨nlen, hnlen⟩ : ∃ nlen : BitVec 16, nlen = s.inByte (s.ip.toNat + 3) ++ s.inByte (s.ip.toNat + 2) := ⟨_, rfl⟩
  obtain ⟨hcut, hne, hshort, hover, hfit⟩ := storedBlockStep s h hscript hf len nlen hlen hnlen
  have hraise {u : State} {e : ErrorCode} (hu : step s = .next (u.enterError e)) : False := by
    cases hu.symm.trans hstep
    exact herr rfl
  have hheader : s.ip.toNat + 4 ≤ s.inLen.toNat := Nat.le_of_not_lt fun hlt => hraise (hcut hlt)
  have heq : len = nlen ^^^ 0xFFFF := not_not.1 fun hneq => hraise (hne hheader hneq)
  have hdata : s.ip.toNat + 4 + len.toNat ≤ s.inLen.toNat := Nat.le_of_not_lt fun hlt => hraise (hshort hheader heq hlt)
  have hroom : s.op.toNat + len.toNat ≤ s.par.outMemSize := Nat.le_of_not_lt fun hlt => hraise (hover hdata heq hlt)
  obtain ⟨g, t', -, hstep', ht, -⟩ := hfit hdata heq hroom
  cases hstep'.symm.trans hstep
  rw [ht]

theorem step_dynhdr_fsm (hf : s.fsm = .dynhdr) : t.fsm = .clens := by
  obtain ⟨hfit, hcut⟩ := dynamicHeaderStep s h hscript hf _ _ rfl rfl
  rcases Nat.lt_or_ge s.streamEnd (s.reader.bitPos + 14 + 3 * (streamField s.inByte (s.reader.bitPos + 10) 4 + 4)) with hlt | hle
  · obtain ⟨t', hstep', hfsm, -⟩ := hcut (.inr hlt)
    cases hstep'.symm.trans hstep
    exact absurd hfsm herr
  · obtain ⟨t', hstep', -, hfsm, -⟩ := hfit hle
    cases hstep'.symm.trans hstep
    exact hfsm

omit herr in
theorem step_dynbuild_fsm (hf : s.fsm = .dynbuild) : t.fsm = .body := by
  have hbuild := step_internal (i := .dynbuild) hscript (by simp [State.internalStep, h.pend_eq, hf])
  rw [dynbuildBuildsBothTables, thenParts_next rfl] at hbuild
  cases hbuild.symm.trans hstep
  rfl

theorem step_finish_fsm (hf : s.fsm = .finish) : t.fsm = .done := by
  have hspec := hstep.symm.trans (finishStep s h hscript hf _ _ rfl rfl)
  split_ifs at hspec <;> cases hspec
  case pos | neg => rfl
  all_goals exact absurd rfl herr

end Transitions

/-- Settles O8: S by S, as its step says. -/
theorem engineTransitionsOfS : Obligations.EngineTransitionsOfS := by
  unfold Obligations.EngineTransitionsOfS
  intro s t h hscript hb hstep herr
  cases hf : s.fsm with
  | idle | done | error => simp [State.busy, hf, Fsm.running] at hb
  | zhdr => exact step_zhdr_fsm h hscript hstep herr hf
  | bhdr => exact step_bhdr_fsm h hscript hstep herr hf
  | stored => exact step_stored_fsm h hscript hstep herr hf
  | dynhdr => exact step_dynhdr_fsm h hscript hstep herr hf
  | clens => exact step_clens_fsm h hscript hf hstep herr
  | dynbuild => exact step_dynbuild_fsm h hscript hstep hf
  | body => exact step_body_fsm h hscript hf hstep herr
  | finish => exact step_finish_fsm h hscript hstep herr hf

end Sys2Proof.Machine
end

section
/-! PROOFS. Every decode ends (42_block_decoder.md R123, 70_reset_and_hazards.md R215): each step brings the end nearer. -/

namespace Sys2Proof.Machine

/-- The stream bits the reader can still consume (40_bitreader.md R95). -/
def State.bitsLeft (s : State) : Nat := 8 * s.readTop - s.reader.bitPos

/-- A bound of the steps left: an element consumes a bit, and a DYNBUILD step, which consumes none, follows on one that did. -/
def State.stepsLeft (s : State) : Nat :=
  match s.fsm with
  | .idle | .done | .error => 0
  | .finish => 1
  | .dynbuild => 2 * s.bitsLeft + 3
  | _ => 2 * s.bitsLeft + 2

theorem State.stepsLeft_le (s : State) : s.stepsLeft ≤ 2 * s.bitsLeft + 3 := by
  unfold State.stepsLeft
  split <;> omega

theorem State.stepsLeft_pos {s : State} (hb : s.busy = true) : 0 < s.stepsLeft := by
  unfold State.stepsLeft
  split <;> simp_all [State.busy, Fsm.running]

theorem State.stepsLeft_of_element {s : State} (hb : s.busy = true) (hbuild : s.fsm ≠ .dynbuild) (hfin : s.fsm ≠ .finish) :
    s.stepsLeft = 2 * s.bitsLeft + 2 := by
  unfold State.stepsLeft
  split <;> simp_all [State.busy, Fsm.running]

section Step

variable {s t : State} (h : s.Inv) (hscript : s.script = []) (hb : s.busy = true) (hstep : step s = .next t)
include h hscript hb hstep

theorem readTop_of_step : t.readTop = s.readTop := by
  obtain ⟨-, -, -, -, -, hindex, hinLen, -⟩ := engineKeepsInputAndOptions s t h hscript hb hstep
  rw [State.readTop, hindex, hinLen, State.readTop]

/-- The stream's end is where the decode's input ends, or where it began. -/
theorem bitPos_le_of_step : t.reader.bitPos ≤ 8 * s.readTop := by
  obtain ⟨-, hend, -⟩ := elementsConsumeStreamBits s t h hscript hb hstep
  obtain ⟨-, -, hip⟩ := (h.decoding hb).reader_ok
  exact le_trans hend (Nat.mul_le_mul_left 8 (Nat.max_le.2 ⟨Nat.le_max_left _ _, hip⟩))

theorem stepsLeft_lt_of_step : t.stepsLeft < s.stepsLeft := by
  obtain ⟨hle, -, hlt⟩ := elementsConsumeStreamBits s t h hscript hb hstep
  have hend := bitPos_le_of_step h hscript hb hstep
  have hleft : t.bitsLeft = 8 * s.readTop - t.reader.bitPos := by rw [State.bitsLeft, readTop_of_step h hscript hb hstep]
  have hleft' : s.bitsLeft = 8 * s.readTop - s.reader.bitPos := rfl
  by_cases herr : t.fsm = .error
  · exact lt_of_le_of_lt (by simp [State.stepsLeft, herr]) (State.stepsLeft_pos hb)
  by_cases hfin : s.fsm = .finish
  · have hdone := step_finish_fsm h hscript hstep herr hfin
    simp [State.stepsLeft, hdone, hfin]
  by_cases hbuild : s.fsm = .dynbuild
  · have hbody := step_dynbuild_fsm h hscript hstep hbuild
    simp only [State.stepsLeft, hbody, hbuild]
    omega
  · have hbit := hlt hbuild hfin herr
    have hbound := t.stepsLeft_le
    rw [State.stepsLeft_of_element hb hbuild hfin]
    omega

/-- No engine step goes to IDLE (42_block_decoder.md R122). -/
theorem fsm_ne_idle_of_step : t.fsm ≠ .idle := by
  intro hidle
  have htrans := engineTransitionsOfS s t h hscript hb hstep (by rw [hidle]; nofun)
  cases hf : s.fsm <;> simp [hf, hidle] at htrans
  case stored | clens | body => split_ifs at htrans

end Step

theorem State.fsm_ended {s : State} (hb : s.busy = false) (hidle : s.fsm ≠ .idle) : s.fsm = .done ∨ s.fsm = .error :=
  (s.busy_eq_false.1 hb).resolve_left hidle

theorem core_run_succ {s u : State} (hstep : step s = .next u) (n : Nat) : core.run (n + 1) s = core.run n u := by
  have hcore : core.step s = .next u := hstep
  rw [Host.Core.run.eq_2 core s n, hcore]

/-- A running decode, or one that has ended, ends in that many steps. -/
theorem exists_run_ended {k : Nat} {s : State} (h : s.Inv) (hscript : s.script = []) (hidle : s.fsm ≠ .idle) (hk : s.stepsLeft ≤ k) :
    ∃ n t, n ≤ k ∧ core.run n s = .next t ∧ (t.fsm = .done ∨ t.fsm = .error) := by
  induction k generalizing s with
  | zero =>
    cases hb : s.busy with
    | true => exact absurd (State.stepsLeft_pos hb) (by omega)
    | false => exact ⟨0, s, le_rfl, rfl, State.fsm_ended hb hidle⟩
  | succ k ih =>
    cases hb : s.busy with
    | false => exact ⟨0, s, Nat.zero_le _, rfl, State.fsm_ended hb hidle⟩
    | true =>
      obtain ⟨u, hstep⟩ := (runningEngineTakesAStep s h hscript).1 hb
      have hlt := stepsLeft_lt_of_step h hscript hb hstep
      obtain ⟨-, -, -, -, -, -, -, -, -, -, hscript'⟩ := engineKeepsInputAndOptions s u h hscript hb hstep
      obtain ⟨n, t, hn, hrun, hend⟩ := ih (invKeptByEveryStep s u h hstep) hscript' (fsm_ne_idle_of_step h hscript hb hstep) (by omega)
      refine ⟨n + 1, t, Nat.succ_le_succ hn, ?_, hend⟩
      exact (core_run_succ hstep n).trans hrun

/-- START begins at INDEX with nothing buffered (42_block_decoder.md R110). -/
theorem State.stepsLeft_startInit (s : State) :
    s.startInit.stepsLeft = 16 * (Nat.max s.inLen.toNat s.index.toNat - s.index.toNat) + 2 := by
  have hbits : s.startInit.bitsLeft = 8 * Nat.max s.inLen.toNat s.index.toNat - 8 * s.index.toNat := rfl
  have hsteps : s.startInit.stepsLeft = 2 * s.startInit.bitsLeft + 2 := by cases hmode : s.mode <;> simp [State.stepsLeft, hmode]
  omega

/-- Settles O6: from its START a decode has all the bits from INDEX on left. -/
theorem everyDecodeEnds : Obligations.EveryDecodeEnds := by
  unfold Obligations.EveryDecodeEnds
  intro s h hscript
  obtain ⟨hpar, ⟨hin, -⟩, -⟩ := h
  have hidle : s.startInit.fsm ≠ .idle := by
    rw [State.startInit_fsm]
    split_ifs <;> nofun
  obtain ⟨n, t, hn, hrun⟩ := exists_run_ended (State.startInit_inv hpar hin) hscript hidle le_rfl
  exact ⟨n, t, le_trans hn s.stepsLeft_startInit.le, hrun⟩

end Sys2Proof.Machine
end

section
/-! PROOFS. The body of a Huffman-coded block (43_lz77_copy.md R141 to R144): the literal, the end of a block, and the two symbols of a
pair with the match's copy. -/

namespace Sys2Proof

open Sys2Proof.Machine

/-! ## Lengths and distances -/

theorem lengthBase_bounds : ∀ idx : Fin 31, 3 ≤ lengthBase idx ∧ lengthBase idx + 2 ^ lengthExtraBits idx ≤ 259 := by decide

theorem distanceBase_bounds : ∀ d : Fin 30, 1 ≤ distanceBase d ∧ distanceBase d + 2 ^ distanceExtraBits d ≤ 32769 := by decide

/-- A length is LBASE of one of the 31 indexes plus extra bits that fit (30_encoding.md R70). -/
theorem Instr.exists_index_of_lengthOf {i : Instr} {n : Nat} (h : i.lengthOf = some n) (hwf : i.wellFormed = true) :
    ∃ idx e, idx < 31 ∧ e < 2 ^ lengthExtraBits idx ∧ n = lengthBase idx + e := by
  unfold Instr.lengthOf at h
  split at h
  case h_1 idx e =>
    obtain ⟨hidx, he⟩ : idx.toNat ≤ 30 ∧ e.toNat < 2 ^ lengthExtraBits idx.toNat := by simpa [Instr.wellFormed] using hwf
    exact ⟨_, _, by omega, he, (Option.some.inj h).symm⟩
  case h_2 =>
    obtain ⟨⟨idx, e⟩, hp, hn⟩ := Option.map_eq_some_iff.1 h
    obtain ⟨-, hidx, he, -⟩ := encode_of_fixedLength hp
    exact ⟨idx, e, Nat.lt_succ_of_le hidx, he, hn.symm⟩

/-- A distance is DBASE of one of the 30 symbols with an entry plus extra bits that fit (30_encoding.md R71). -/
theorem Instr.exists_symbol_of_distanceOf {i : Instr} {n : Nat} (h : i.distanceOf = some n) (hwf : i.wellFormed = true) :
    ∃ d e, d < 30 ∧ e < 2 ^ distanceExtraBits d ∧ n = distanceBase d + e := by
  unfold Instr.distanceOf at h
  split at h
  case h_1 d e =>
    obtain ⟨hd, he⟩ : d.toNat ≤ 29 ∧ e.toNat < 2 ^ distanceExtraBits d.toNat := by simpa [Instr.wellFormed] using hwf
    exact ⟨_, _, by omega, he, (Option.some.inj h).symm⟩
  case h_2 =>
    obtain ⟨⟨d, e⟩, hp, hn⟩ := Option.map_eq_some_iff.1 h
    obtain ⟨-, hd, he, -⟩ := encode_of_fixedDistance hp
    exact ⟨d, e, hd, he, hn.symm⟩

theorem Instr.lengthOf_bounds {i : Instr} {n : Nat} (h : i.lengthOf = some n) (hwf : i.wellFormed = true) : 3 ≤ n ∧ n ≤ 258 := by
  obtain ⟨idx, e, hidx, he, rfl⟩ := Instr.exists_index_of_lengthOf h hwf
  obtain ⟨hlo, hhi⟩ := lengthBase_bounds ⟨idx, hidx⟩
  simp only at hlo hhi
  omega

theorem Instr.distanceOf_bounds {i : Instr} {n : Nat} (h : i.distanceOf = some n) (hwf : i.wellFormed = true) : 1 ≤ n ∧ n ≤ 32768 := by
  obtain ⟨d, e, hd, he, rfl⟩ := Instr.exists_symbol_of_distanceOf h hwf
  obtain ⟨hlo, hhi⟩ := distanceBase_bounds ⟨d, hd⟩
  simp only at hlo hhi
  omega

end Sys2Proof

namespace Sys2Proof.Machine

/-! ## The room for a write -/

/-- `grow` writes CAP alone (44_output_growth.md R150). -/
theorem State.grow_ok {s g : State} {required : Nat} {ratio : Option Nat} (h : s.grow required ratio = .ok g) :
    g = { s with cap := g.cap } := by
  unfold State.grow at h
  split_ifs at h
  · cases h
    rfl
  · cases h
    rfl

/-- After `grow` the write fits CAP, and CAP fits OUT. -/
theorem State.grow_ok_bounds {s g : State} {required : Nat} {ratio : Option Nat} (hcap : s.cap.toNat ≤ s.par.outMemSize)
    (hsize : s.par.outMemSize ≤ 2 ^ 31) (h : s.grow required ratio = .ok g) :
    required ≤ g.cap.toNat ∧ g.cap.toNat ≤ s.par.outMemSize := by
  rcases s.grow_cases required ratio hcap hsize with ⟨hfit, e⟩ | ⟨-, e⟩ | ⟨-, -, c, -, -, hreq, hle, e⟩
  · cases e.symm.trans h
    exact ⟨hfit, hcap⟩
  · cases e.symm.trans h
  · cases e.symm.trans h
    exact ⟨hreq, hle⟩

/-! ## The literal -/

/-- A literal with room in OUT: the byte goes out at OP (R141). -/
theorem literalByte_of_emit {s g t : State} {v : Byte} (hg : s.growForLiteral = .ok g) (ht : g.emit v = .ok t) :
    literalByte v s = .ok t := by
  rw [literalByte, hg]
  exact ht

/-- Settles O40: growForLiteral changes CAP alone, and the byte goes out at OP. -/
theorem literalWritesItsByte : Obligations.LiteralWritesItsByte := by
  unfold Obligations.LiteralWritesItsByte
  intro i v s hi hcap hsize
  rw [exec_of_literalOf hi, literal]
  refine ⟨fun hfull => ?_, fun hroom => ?_⟩
  · rw [literalByte, s.growForLiteral_eq, State.grow_of_overflow none hcap (by omega)]
    rfl
  · obtain ⟨g, hg⟩ := State.grow_of_fits (s := s) (required := s.op.toNat + 1) none hroom
    have hgeq := State.grow_ok hg
    rw [← s.growForLiteral_eq] at hg
    obtain ⟨t, ht, hteq⟩ : ∃ t, g.emit v = .ok t ∧ t = { g with outMem := t.outMem, op := g.op + 1 } :=
      ⟨_, (g.emit_eq v).trans (if_pos (by rw [hgeq]; exact hroom)), rfl⟩
    refine ⟨g, t, hg, congrArg Res.finish (literalByte_of_emit hg ht), fun a => ?_, ?_⟩
    · rw [State.emit_outByte ht, hgeq]
      rfl
    · rw [hteq, hgeq]

/-! ## The end of a block -/

/-- Settles O41: the rewound reader fits the registers, and gives back whole bytes only. -/
theorem endOfBlockRewinds : Obligations.EndOfBlockRewinds := by
  unfold Obligations.EndOfBlockRewinds
  intro i s hi hcnt
  have hip := s.ip.isLt
  have hbuf := s.bitBuf.isLt
  have hreader : (endOfBlock s).reader = s.reader.eobRewind :=
    s.reader_withReader (lt_of_le_of_lt (Nat.sub_le _ _) hip) (lt_trans (Nat.mod_lt _ (by decide)) (by decide))
      (lt_of_le_of_lt (Nat.mod_le _ _) hbuf)
  have hexec : exec i s = .next (endOfBlock s) := by
    rcases hi with rfl | rfl <;> rfl
  refine ⟨endOfBlock s, hexec, congrArg Reader.ip hreader, congrArg Reader.cnt hreader, congrArg Reader.buf hreader, ?_, rfl⟩
  rw [hreader]
  show 8 * (s.ip.toNat - s.bitCnt.toNat / 8) - s.bitCnt.toNat % 8 = 8 * s.ip.toNat - s.bitCnt.toNat
  omega

/-! ## The length symbols -/

/-- Settles O42: LBASE and the extra bits of each index stay within 3 and 258. -/
theorem lengthSymbolsGiveTheirLength : Obligations.LengthSymbolsGiveTheirLength := by
  unfold Obligations.LengthSymbolsGiveTheirLength
  intro i n s hi hwf
  obtain ⟨hlo, hhi⟩ := Instr.lengthOf_bounds hi hwf
  exact ⟨hlo, hhi, exec_of_lengthOf hi s⟩

/-! ## The match -/

theorem copyMatch_of_far {s : State} {dist : Nat} (h : s.op.toNat < dist) : copyMatch dist s = .raise .invalidDistance s := if_pos h

/-- With its distance checked a match makes room for itself and is copied (R143). -/
theorem copyMatch_of_near {s : State} {dist n : Nat} (hnear : dist ≤ s.op.toNat) (hp : s.pend = .distance n) :
    copyMatch dist s = (s.grow (s.op.toNat + n) none).andThen fun t =>
      (copyForward dist n t).andThen fun u => .ok (u.setPend .none) := by
  rw [copyMatch, if_neg (Nat.not_lt.2 hnear), hp]
  rfl

theorem copyMatch_of_overflow {s : State} {dist n : Nat} (hnear : dist ≤ s.op.toNat) (hp : s.pend = .distance n)
    (hcap : s.cap.toNat ≤ s.par.outMemSize) (hover : s.par.outMemSize < s.op.toNat + n) :
    copyMatch dist s = .raise .outputOverflow s := by
  rw [copyMatch_of_near hnear hp, State.grow_of_overflow none hcap hover]
  rfl

/-- Settles O44: the check of the distance comes before the room for the match. -/
theorem invalidMatchesRaise : Obligations.InvalidMatchesRaise := by
  unfold Obligations.InvalidMatchesRaise
  intro s
  refine ⟨fun i dist hi hfar => ?_, fun i dist n hi hnear hp hcap hover => ?_, fun _ => rfl, rfl, rfl⟩
  · rw [exec_of_distanceOf hi, copyMatch_of_far hfar]
    rfl
  · rw [exec_of_distanceOf hi, copyMatch_of_overflow hnear hp hcap hover]
    rfl

/-- Settles O43: the room is made before the first byte, and then the forward copy's bytes are those of copyForward_ok. -/
theorem matchCopiesForward : Obligations.MatchCopiesForward := by
  unfold Obligations.MatchCopiesForward
  intro i dist n s hi hwf hp hcap hsize hnear hfit
  obtain ⟨hlo, hhi⟩ := Instr.distanceOf_bounds hi hwf
  obtain ⟨g, hg⟩ := State.grow_of_fits none hfit
  obtain ⟨hreq, hle⟩ := State.grow_ok_bounds hcap hsize hg
  have hgeq := State.grow_ok hg
  obtain ⟨m, hcopy, -, hframe, hbytes⟩ := copyForward_ok dist n { s with cap := g.cap } hlo hnear hfit hsize
  refine ⟨hlo, hhi, g, { s with cap := g.cap, outMem := m, op := s.op + BitVec.ofNat 32 n, pend := .none }, hg, ?_, hbytes,
    fun a ha => ?_, hreq, hle, rfl⟩
  · rw [exec_of_distanceOf hi, copyMatch_of_near hnear hp, hg, Res.andThen, hgeq, hcopy]
    rfl
  · exact congrArg (Option.getD · _) (hframe a ha)

end Sys2Proof.Machine
end

section
/-! PROOFS. The step of a length/distance pair (43_lz77_copy.md R143, R144): the length, and the distance as the step's other part. -/

namespace Sys2Proof.Machine

/-! ## The room and the copy -/

/-- `grow` looks at CAP, the size of OUT and the new sizes alone (44_output_growth.md R150). -/
theorem State.grow_congr {s t g : State} {required : Nat} {ratio : Option Nat} (hcap : t.cap = s.cap) (hpar : t.par = s.par)
    (hnew : t.newCapacity ratio = s.newCapacity ratio) (h : s.grow required ratio = .ok g) :
    t.grow required ratio = .ok { t with cap := g.cap } := by
  unfold State.grow at h ⊢
  rw [hcap, hpar, hnew]
  split_ifs at h ⊢
  · cases h
    rw [← hcap, ← hpar]
  · cases h
    rfl

/-- Byte k of a match is the byte dist before it, where it is byte k mod dist of the last dist bytes (R144). -/
theorem outByte_eq_outByte_sub_of_match {s t : State} {op dist n : Nat} (hpos : 1 ≤ dist) (hnear : dist ≤ op)
    (hcopy : ∀ k, k < n → t.outByte (op + k) = s.outByte (op - dist + k % dist)) (hbelow : ∀ a, a < op → t.outByte a = s.outByte a)
    {k : Nat} (hk : k < n) : t.outByte (op + k) = t.outByte (op + k - dist) := by
  rw [hcopy k hk]
  rcases Nat.lt_or_ge k dist with hlt | hge
  · rw [Nat.mod_eq_of_lt hlt, hbelow _ (by omega)]
    congr 1
    omega
  · rw [show op + k - dist = op + (k - dist) by omega, hcopy _ (by omega), Nat.mod_eq_sub_mod hge]

/-! ## The part of the distance -/

/-- The length of a pair is read and its distance is to come, the reader at r (R143). -/
def State.awaitDistance (s : State) (r : Reader) (n : Nat) : State := (s.advance.withReader r).setPend (.distance n)

theorem State.awaitDistance_withReader (s : State) (r r' : Reader) (n : Nat) :
    (s.awaitDistance r n).withReader r' = s.awaitDistance r' n := rfl

/-- Error entry leaves no part, so it does not look at the part left. -/
theorem State.enterError_awaitDistance (s : State) (r : Reader) (n : Nat) (e : ErrorCode) :
    (s.awaitDistance r n).enterError e = (s.advance.withReader r).enterError e := rfl

theorem State.awaitDistance_place (s : State) (r : Reader) (n : Nat) :
    (s.awaitDistance r n).place = some (.dist s.fixedBody s.distt) := rfl

section Pair

variable {s : State} {i : Instr} {n : Nat} {r : Reader} (h : s.Inv) (hscript : s.script = []) (hf : s.fsm = .body)
  (hd : decode (.litLen s.fixedBody s.litt) s.readIn s.inLen.toNat s.reader = .instr i r) (hi : i.lengthOf = some n)
include h hscript hf hd hi

/-- After a length the distance is the step's next part. -/
theorem step_length : step s = thenParts exec (.next (s.awaitDistance r n)) := by
  have hplace : s.place = some (.litLen s.fixedBody s.litt) := by simp [State.place, h.pend_eq, hf]
  rw [step_of_instr hscript hplace hd, exec_of_lengthOf hi]
  rfl

omit hscript hi in
/-- The distance is read where the length's bits end. -/
theorem awaitDistance_reader : (s.awaitDistance r n).reader = r := by
  have hs := h.decoding (by simp [State.busy, hf, Fsm.running])
  have hr := decodeLitLen_meets hs.readIn (Nat.le_max_left _ s.index.toNat) s.fixedBody s.litt hs.reader_ok
  rw [show decodeLitLen _ _ _ _ _ = _ from hd] at hr
  obtain ⟨⟨⟨-, hbuf, -⟩, hcnt, hip⟩, -⟩ := hr
  have hbuf32 : r.buf < 2 ^ 32 := lt_of_lt_of_le hbuf (Nat.pow_le_pow_right (by decide) (by omega))
  exact s.advance.reader_withReader (lt_of_le_of_lt hip (Nat.max_lt.2 ⟨s.inLen.isLt, s.index.isLt⟩)) (by omega) hbuf32

theorem step_distance_raise {e : ErrorCode} {r' : Reader} {got : List Nat}
    (hx : decode (.dist s.fixedBody s.distt) s.readIn s.inLen.toNat r = .raise e r' got) :
    step s = .next ((s.advance.withReader r').enterError e) := by
  have hpart := runPart_raise exec (s.awaitDistance_place r n) ((awaitDistance_reader (n := n) h hf hd).symm ▸ hx)
  rw [step_length h hscript hf hd hi]
  exact thenParts_one nofun hpart rfl

/-- A distance that is decoded ends the step. -/
theorem step_distance_instr {j : Instr} {r' : Reader} {t : State}
    (hx : decode (.dist s.fixedBody s.distt) s.readIn s.inLen.toNat r = .instr j r')
    (hj : exec j (s.awaitDistance r' n) = .next t) (ht : t.pend = .none) : step s = .next t := by
  have hpart := runPart_instr exec (s.awaitDistance_place r n) ((awaitDistance_reader (n := n) h hf hd).symm ▸ hx)
  rw [s.awaitDistance_withReader, hj] at hpart
  rw [step_length h hscript hf hd hi]
  exact thenParts_one nofun hpart ht

theorem step_distance_error {j : Instr} {r' : Reader} {e : ErrorCode}
    (hx : decode (.dist s.fixedBody s.distt) s.readIn s.inLen.toNat r = .instr j r')
    (hj : exec j (s.awaitDistance r' n) = .next ((s.awaitDistance r' n).enterError e)) :
    step s = .next ((s.advance.withReader r').enterError e) := by
  rw [← s.enterError_awaitDistance r' n e]
  exact step_distance_instr h hscript hf hd hi hx hj rfl

end Pair

/-! ## The statement -/

/-- Settles O45: after a length the step has one part more, the distance's, which raises or copies. -/
theorem lengthDistancePairStep : Obligations.LengthDistancePairStep := by
  unfold Obligations.LengthDistancePairStep
  intro s i n r h hscript hf hd hi
  have hb : s.busy = true := by simp [State.busy, hf, Fsm.running]
  have hsize : s.par.outMemSize ≤ 2 ^ 31 := h.1.outMemSize_le
  obtain ⟨-, hcap⟩ := (h.decoding hb).output_ok
  refine ⟨fun e r' got hx => step_distance_raise h hscript hf hd hi hx, fun j r' hx => ?_⟩
  obtain ⟨hfar, hover, hsymbol, h11110, h11111⟩ := invalidMatchesRaise (s.awaitDistance r' n)
  refine ⟨?_, ?_, fun dist hj => ⟨fun hlt => ?_, fun hnear hlt => ?_, fun hnear hfit => ?_⟩⟩
  · rintro d rfl
    exact step_distance_error h hscript hf hd hi hx (hsymbol d)
  · rintro (rfl | rfl)
    · exact step_distance_error h hscript hf hd hi hx h11110
    · exact step_distance_error h hscript hf hd hi hx h11111
  · exact step_distance_error h hscript hf hd hi hx (hfar j dist hj hlt)
  · exact step_distance_error h hscript hf hd hi hx (hover j dist n hj hnear rfl hcap hlt)
  · have hwf : j.wellFormed = true := decodedElementsAreWellFormed _ _ _ _ _ _ hx
    obtain ⟨hpos, -, g, t, hg, hexec, hcopy, hframe, -, -, ht⟩ :=
      matchCopiesForward j dist n (s.awaitDistance r' n) hj hwf rfl hcap hsize hnear hfit
    have hgrow : (s.withReader r').grow (s.op.toNat + n) none = .ok { s.withReader r' with cap := g.cap } :=
      State.grow_congr (s := s.awaitDistance r' n) rfl rfl rfl hg
    have hstep : step s = .next t := step_distance_instr h hscript hf hd hi hx hexec (by rw [ht])
    obtain ⟨-, hbelow, -, hfree⟩ := outputBelowCursorIsFinal s t h hscript hb hstep
    refine ⟨_, t, hgrow, hstep, ?_, fun k hk => ?_, hbelow, fun a ha => hfree a ?_⟩
    · rw [ht]
      exact State.eq_of_setPend_eq h.pend_eq.symm rfl
    · exact outByte_eq_outByte_sub_of_match hpos hnear hcopy (fun a ha => hframe a (.inl ha)) hk
    · rw [ht]
      show (s.op + BitVec.ofNat 32 n).toNat ≤ a
      rw [BitVec.toNat_add, BitVec.toNat_ofNat]
      omega

end Sys2Proof.Machine
end

section
/-! PROOFS. The growth of the output (44_output_growth.md R150 to R155): the new size of a pass, the loop as the pass repeated, and the
room that a stored header makes for its data (42_block_decoder.md R113). -/

namespace Sys2Proof.Machine

/-! ## The new size -/

/-- With no code in the table the estimate is the doubling (R153). -/
theorem estimateCapacity_zero (rem cap : Nat) : estimateCapacity rem 0 cap = 2 * cap :=
  Nat.max_eq_right (by rw [if_pos rfl]; omega)

theorem estimateCapacity_of_ne_zero (rem cap : Nat) {minLen : Nat} (h : minLen ≠ 0) :
    estimateCapacity rem minLen cap = Nat.max (cap + 129 * rem / minLen) (2 * cap) := by
  rw [estimateCapacity, if_neg h]

theorem defaultCapacity_nothing_read (rem minLen cap : Nat) : defaultCapacity rem 0 minLen cap = 2 * cap := if_pos rfl

theorem defaultCapacity_of_lt {rem cons : Nat} (minLen cap : Nat) (h : rem < cons) :
    defaultCapacity rem cons minLen cap = estimateCapacity rem minLen cap := by
  rw [defaultCapacity, if_neg (by omega), if_pos h]

theorem defaultCapacity_of_le {rem cons : Nat} (minLen cap : Nat) (hread : 0 < cons) (h : cons ≤ rem) :
    defaultCapacity rem cons minLen cap = cap * (rem + cons) / cons := by
  rw [defaultCapacity, if_neg (by omega), if_neg (by omega)]

/-- The default new size in the registers: rem = IN_LEN - IP and cons = IP - INDEX (R151). -/
theorem State.newCapacity_none (s : State) (cap : Nat) : s.newCapacity none cap =
    defaultCapacity (s.inLen.toNat - s.ip.toNat) (s.ip.toNat - s.index.toNat) s.litt.min.toNat cap := rfl

/-- Settles O47: what is left and what is read add up to the whole input. -/
theorem newCapacityFormulas : Obligations.NewCapacityFormulas := by
  unfold Obligations.NewCapacityFormulas
  intro s cap hindex hip
  have hwhole : s.inLen.toNat - s.ip.toNat + (s.ip.toNat - s.index.toNat) = s.inLen.toNat - s.index.toNat := by omega
  refine ⟨fun _ => rfl, fun hnone => ?_, fun _ hlt hmin => ?_, fun _ hlt hmin => ?_, fun hread hle => ?_⟩
  · rw [s.newCapacity_none, hnone, Nat.sub_self, defaultCapacity_nothing_read]
  · rw [s.newCapacity_none, defaultCapacity_of_lt _ _ hlt, estimateCapacity_of_ne_zero]
    exact fun h => hmin (BitVec.eq_of_toNat_eq h)
  · rw [s.newCapacity_none, defaultCapacity_of_lt _ _ hlt, hmin]
    exact estimateCapacity_zero _ cap
  · rw [s.newCapacity_none, defaultCapacity_of_le _ _ (Nat.sub_pos_of_lt hread) hle, hwhole]

/-! ## The loop -/

/-- The loop is the pass repeated, and it repeats none whose capacity fits the write (R155). -/
theorem growLoop_eq_iterate (f : Nat → Nat) (required size : Nat) : ∀ fuel cap : Nat,
    ∃ n, growLoop f required size fuel cap = (growPass f required size)^[n] cap ∧
      ∀ m, m < n → (growPass f required size)^[m] cap < required
  | 0, _ => ⟨0, rfl, nofun⟩
  | fuel + 1, cap => by
    rw [growLoop]
    split_ifs with hcap
    · obtain ⟨n, hn, hbelow⟩ := growLoop_eq_iterate f required size fuel (growPass f required size cap)
      refine ⟨n + 1, hn, fun m hm => ?_⟩
      cases m with
      | zero => exact hcap
      | succ m => exact hbelow m (Nat.lt_of_succ_lt_succ hm)
    · exact ⟨0, rfl, nofun⟩

/-- Settles O46: the loop ends with the first pass whose capacity fits the write. -/
theorem growRepeatsUntilItFits : Obligations.GrowRepeatsUntilItFits := by
  unfold Obligations.GrowRepeatsUntilItFits
  intro s required ratio pass hpass hcap hsize
  obtain rfl : pass = growPass (s.newCapacity ratio) required s.par.outMemSize := funext hpass
  refine ⟨fun hfits => if_pos hfits, fun _ hover => State.grow_of_overflow ratio hcap hover, fun hlt hroom => ?_⟩
  rcases s.grow_cases required ratio hcap hsize with ⟨hfits, -⟩ | ⟨hover, -⟩ | ⟨-, -, c, hc, -, hreq, hle, hgrow⟩
  · exact absurd hlt (Nat.not_lt.2 hfits)
  · exact absurd hroom (Nat.not_le.2 hover)
  · obtain ⟨n, hn, hbelow⟩ :=
      growLoop_eq_iterate (s.newCapacity ratio) required s.par.outMemSize (required - s.cap.toNat) s.cap.toNat
    exact ⟨n, c, hgrow, hc.trans hn, hreq, hle, hbelow⟩

/-! ## The room for stored data -/

/-- `grow` never takes room away. -/
theorem State.cap_le_of_grow {s g : State} {required : Nat} {ratio : Option Nat} (hcap : s.cap.toNat ≤ s.par.outMemSize)
    (hsize : s.par.outMemSize ≤ 2 ^ 31) (h : s.grow required ratio = .ok g) : s.cap.toNat ≤ g.cap.toNat := by
  rcases s.grow_cases required ratio hcap hsize with ⟨-, e⟩ | ⟨-, e⟩ | ⟨-, -, c, -, hlt, -, -, e⟩
  · cases e.symm.trans h
    exact le_rfl
  · cases e.symm.trans h
  · cases e.symm.trans h
    exact hlt.le

/-- What follows a stored header writes the part left and S alone (42_block_decoder.md R113). -/
theorem State.beginData_toNat (s : State) (len : BitVec 16) : s.beginData len.toNat =
    { s with
      pend := if len = 0 then .none else .storedData len.toNat
      fsm := if len = 0 then (if s.bfinal = 1 then .finish else .bhdr) else s.fsm } := by
  by_cases hlen : len = 0
  · subst hlen
    rfl
  · have hpos : len.toNat ≠ 0 := fun h => hlen (BitVec.eq_of_toNat_eq h)
    rw [State.beginData, if_neg hpos, if_neg hlen, if_neg hlen]
    rfl

/-- Settles O32: the checks in their order, and then the room for the data, which changes CAP alone. -/
theorem storedHeaderChecks : Obligations.StoredHeaderChecks := by
  unfold Obligations.StoredHeaderChecks
  intro len nlen s hcap hsize
  have hexec : exec (.lenNlen len nlen) s = (storedHeader len nlen s).finish := rfl
  refine ⟨fun hne => ?_, fun heq hshort => ?_, fun heq hlong hover => ?_, fun heq hlong hfit => ?_⟩
  · rw [hexec, storedHeader_of_ne s hne]
    rfl
  · rw [hexec, storedHeader_of_short heq hshort]
    rfl
  · rw [hexec, storedHeader_of_long heq hlong, State.grow_of_overflow (some 2) hcap hover]
    rfl
  · obtain ⟨g, hg⟩ := State.grow_of_fits (some 2) hfit
    obtain ⟨hreq, hle⟩ := State.grow_ok_bounds hcap hsize hg
    refine ⟨g, hg, State.cap_le_of_grow hcap hsize hg, hreq, hle, ?_⟩
    rw [hexec, storedHeader_of_long heq hlong, hg, State.grow_ok hg]
    exact congrArg Host.Outcome.next (State.beginData_toNat { s with cap := g.cap } len)

end Sys2Proof.Machine
end

section
/-! PROOFS. The checksum (45_adler32.md R160, R161): reducing once a chunk is reducing after every byte, and the packed value keeps both
sums, so that an update goes on where the last one stopped. -/

namespace Sys2Proof.Machine

/-! ## Reduced sums -/

/-- Both sums mod 65521, as at the end of a chunk (R160). -/
def adlerReduce (p : Nat × Nat) : Nat × Nat := (p.1 % adlerMod, p.2 % adlerMod)

theorem adlerReduce_adlerReduce (p : Nat × Nat) : adlerReduce (adlerReduce p) = adlerReduce p :=
  Prod.ext (Nat.mod_mod _ _) (Nat.mod_mod _ _)

/-- Reduction commutes with the addition of a byte to both sums (R161). -/
theorem adlerByte_adlerReduce (p : Nat × Nat) (b : Byte) :
    adlerByte (adlerReduce p) b = adlerReduce (p.1 + b.toNat, p.2 + (p.1 + b.toNat)) := by
  refine Prod.ext (Nat.mod_add_mod _ _ _) ?_
  calc (p.2 % adlerMod + (p.1 % adlerMod + b.toNat)) % adlerMod
      = (p.2 + (p.1 % adlerMod + b.toNat)) % adlerMod := Nat.mod_add_mod _ _ _
    _ = (p.2 + (p.1 + b.toNat)) % adlerMod := Nat.ModEq.add_left _ (Nat.mod_add_mod _ _ _)

theorem adlerReduce_foldl_adlerByte (bs : List Byte) {p : Nat × Nat} (hp : adlerReduce p = p) :
    adlerReduce (bs.foldl adlerByte p) = bs.foldl adlerByte p := by
  induction bs generalizing p with
  | nil => exact hp
  | cons b bs ih => exact ih (adlerReduce_adlerReduce (p.1 + b.toNat, p.2 + (p.1 + b.toNat)))

/-! ## Chunks -/

/-- A chunk reduced at its end is the chunk reduced after every byte. -/
theorem adlerReduce_adlerChunkSums (bs : List Byte) (p : Nat × Nat) :
    adlerReduce (adlerChunkSums bs p) = bs.foldl adlerByte (adlerReduce p) := by
  induction bs generalizing p with
  | nil => rfl
  | cons b bs ih =>
    rw [adlerChunkSums, ih, List.foldl_cons, adlerByte_adlerReduce]

/-- Where the chunks end does not matter (R160). -/
theorem adlerChunks_eq_foldl (fuel : Nat) (bs : List Byte) {p : Nat × Nat} (hfuel : bs.length ≤ fuel) (hp : adlerReduce p = p) :
    adlerChunks fuel bs p = bs.foldl adlerByte p := by
  induction fuel generalizing bs p with
  | zero =>
    obtain rfl : bs = [] := List.length_eq_zero_iff.1 (Nat.le_zero.1 hfuel)
    rfl
  | succ fuel ih =>
    cases bs with
    | nil => rfl
    | cons b bs =>
      have hrest : ((b :: bs).drop adlerChunk).length ≤ fuel := by
        rw [List.length_drop, adlerChunk]
        omega
      calc adlerChunks (fuel + 1) (b :: bs) p
          = adlerChunks fuel ((b :: bs).drop adlerChunk) (adlerReduce (adlerChunkSums ((b :: bs).take adlerChunk) p)) := rfl
        _ = ((b :: bs).drop adlerChunk).foldl adlerByte (((b :: bs).take adlerChunk).foldl adlerByte p) := by
          rw [ih _ hrest (adlerReduce_adlerReduce _), adlerReduce_adlerChunkSums, hp]
        _ = (b :: bs).foldl adlerByte p := by
          rw [← List.foldl_append, List.take_append_drop]

/-! ## The packed value -/

/-- Two reduced sums fit in 16 bits each, so that the halves of the packed word are the sums again (R160). -/
theorem packSums_halves {p : Nat × Nat} (hp : adlerReduce p = p) :
    ((packSums p).toNat &&& 0xFFFF, ((packSums p).toNat >>> 16) &&& 0xFFFF) = p := by
  have h1 : p.1 < 65521 := hp ▸ Nat.mod_lt _ (by decide)
  have h2 : p.2 < 65521 := hp ▸ Nat.mod_lt _ (by decide)
  have hword : (packSums p).toNat = p.2 * 2 ^ 16 + p.1 := by
    rw [packSums, BitVec.toNat_ofNat, ← Nat.shiftLeft_add_eq_or_of_lt (by omega), Nat.shiftLeft_eq]
    omega
  have hmask (n : Nat) : n &&& 0xFFFF = n % 2 ^ 16 := Nat.and_two_pow_sub_one_eq_mod n 16
  rw [hmask, hmask, Nat.shiftRight_eq_div_pow, hword]
  exact Prod.ext (by omega) (by omega)

/-- An update goes on from the two sums that were packed (R160). -/
theorem adlerUpdate_packSums {p : Nat × Nat} (hp : adlerReduce p = p) (bs : List Byte) :
    adlerUpdate (packSums p) bs = packSums (bs.foldl adlerByte p) := by
  rw [adlerUpdate, packSums_halves hp, adlerChunks_eq_foldl _ bs le_rfl hp]

/-- The checksum starts from the sums 1 and 0 (R161). -/
theorem adlerCalc_eq_packSums_foldl (bs : List Byte) : adlerCalc bs = packSums (bs.foldl adlerByte (1, 0)) :=
  adlerUpdate_packSums (p := (1, 0)) rfl bs

/-- Settles O48: a chunk reduced at its end is reduced after every byte, and the packed value keeps both sums for the update that
follows. -/
theorem adlerReducesPerByte : Obligations.AdlerReducesPerByte := by
  unfold Obligations.AdlerReducesPerByte
  intro xs ys
  refine ⟨adlerCalc_eq_packSums_foldl xs, ?_⟩
  rw [adlerCalc_eq_packSums_foldl, adlerUpdate_packSums (adlerReduce_foldl_adlerByte xs rfl), ← List.foldl_append,
    ← adlerCalc_eq_packSums_foldl]

end Sys2Proof.Machine
end

section
/-! PROOFS. The host's commands (46_host_commands.md R170 to R179): the writes of the register window, the reads of its registers, and
the accesses to the windows of IN and OUT. -/

namespace Sys2Proof.Machine

/-! ## The options of a CTRL write (R172) -/

/-- During a decode MODE and VERIFY keep their values. -/
theorem State.writeOptions_of_busy {s : State} (h : s.busy = true) (v : Word) : s.writeOptions v = { s with ie := v.getLsbD 4 } :=
  if_pos h

theorem State.writeOptions_of_idle {s : State} (h : s.busy = false) (v : Word) :
    s.writeOptions v = { s with ie := v.getLsbD 4, mode := v.getLsbD 2, verify := v.getLsbD 3 } :=
  if_neg (Bool.eq_false_iff.1 h)

/-- The three commands of a write at the offset of CTRL: ABORT wins over START (R179). -/
theorem decodeRegWrite_abort {v : Word} (habort : v.getLsbD 1 = true) : decodeRegWrite 0x00 v = .abort v :=
  if_pos habort

theorem decodeRegWrite_start {v : Word} (hstart : v.getLsbD 0 = true) (habort : v.getLsbD 1 = false) :
    decodeRegWrite 0x00 v = .start v := by
  simp only [decodeRegWrite, hstart, habort]
  rfl

theorem decodeRegWrite_config {v : Word} (hstart : v.getLsbD 0 = false) (habort : v.getLsbD 1 = false) :
    decodeRegWrite 0x00 v = .config v := by
  simp only [decodeRegWrite, hstart, habort]
  rfl

/-- Past BUFSIZE every register is read-only or reserved (R175). -/
theorem decodeRegWrite_ignored {off : BitVec 8} (h : 0x14 ≤ off.toNat) (v : Word) :
    decodeRegWrite off.toNat v = .writeIgnored off v := by
  rw [decodeRegWrite, if_neg (by omega), if_neg (by omega), if_neg (by omega), if_neg (by omega), if_neg (by omega),
    BitVec.ofNat_toNat, BitVec.setWidth_eq]

/-! ## START (R170) -/

theorem exec_start_of_busy {s : State} (h : s.busy = true) (v : Word) : exec (.start v) s = .next { s with ie := v.getLsbD 4 } :=
  congrArg Host.Outcome.next ((if_pos h).trans (State.writeOptions_of_busy h v))

/-- The initialisation is left as a part of the same step. -/
theorem exec_start_of_idle {s : State} (h : s.busy = false) (v : Word) : exec (.start v) s =
    .next { s with ie := v.getLsbD 4, mode := v.getLsbD 2, verify := v.getLsbD 3, pend := .startStep } :=
  congrArg Host.Outcome.next
    ((if_neg (Bool.eq_false_iff.1 h)).trans (congrArg (State.setPend · .startStep) (State.writeOptions_of_idle h v)))

/-- The initialisation a START leaves is the step's last part. -/
theorem thenParts_startStep {s : State} (h : s.pend = .startStep) : thenParts exec (.next s) = .next s.startInit := by
  have hplace : s.place = none := by simp only [State.place, h]
  have hinternal : s.internalStep = some .startStep := by simp only [State.internalStep, h]
  exact thenParts_one (by simp [h]) (runPart_internal exec hplace hinternal) s.startInit_pend

/-- A write of CTRL as a move of the host (20_memory.md R49). -/
theorem step_ctrlWrite {s : State} {v : Word} {ms : List Move}
    (h : s.script = .bus { addr := s.par.regBase, bytes := 4, wdata := some v } :: ms) :
    step s = thenParts exec (exec (decodeRegWrite 0x00 v) (s.setScript ms).advance) := by
  rw [step_bus h]
  exact hostStep_access exec (s := s.setScript ms) (decodeBus_reg (off := 0x00) (by decide) 4 (some v))

/-- Settles O53: the START of an idle engine leaves its initialisation, which the same step runs; that of a busy one leaves no part. -/
theorem startWriteBeginsDecode : Obligations.StartWriteBeginsDecode := by
  unfold Obligations.StartWriteBeginsDecode
  intro s v ms hstart habort hpend
  refine ⟨fun hidle => ⟨exec_start_of_idle hidle v, fun hscript => ?_⟩, fun hbusy => ⟨exec_start_of_busy hbusy v, fun hscript => ?_⟩⟩
  · rw [step_ctrlWrite hscript, decodeRegWrite_start hstart habort, exec_start_of_idle (s := (s.setScript ms).advance) hidle]
    refine (thenParts_startStep rfl).trans ?_
    rw [State.advance_of_idle (s := s.setScript ms) hidle]
    rfl
  · rw [step_ctrlWrite hscript, decodeRegWrite_start hstart habort, exec_start_of_busy (s := (s.setScript ms).advance) hbusy]
    refine (thenParts_next ?_).trans ?_
    · exact hpend
    · rw [State.advance_of_busy (s := s.setScript ms) hbusy]
      rfl

/-! ## ABORT, CONFIG and CLEAR (R171 to R173) -/

theorem exec_config (v : Word) (s : State) : exec (.config v) s = .next (s.writeOptions v) := rfl

/-- Settles O54: error entry after the options, of which a running decode takes IE alone. -/
theorem abortStopsRunningDecode : Obligations.AbortStopsRunningDecode := by
  unfold Obligations.AbortStopsRunningDecode
  refine fun s v => ⟨fun hbusy => ?_, fun hidle => ?_, decodeRegWrite_abort⟩
  · have hexec : exec (.abort v) s = .next ((s.writeOptions v).enterError .aborted) := congrArg Host.Outcome.next (if_pos hbusy)
    rw [hexec, State.writeOptions_of_busy hbusy]
    rfl
  · have hexec : exec (.abort v) s = .next (s.writeOptions v) := congrArg Host.Outcome.next (if_neg (Bool.eq_false_iff.1 hidle))
    rw [hexec, State.writeOptions_of_idle hidle]

/-- A flag is cleared by its own bit and kept otherwise. -/
theorem State.clearStatus_eq (s : State) (v : Word) : s.clearStatus v =
    { s with done := if v.getLsbD 1 then false else s.done, err := if v.getLsbD 2 then false else s.err } := by
  have hflag : ∀ flag bit : Bool, (flag && !bit) = if bit then false else flag := by decide
  rw [State.clearStatus, hflag, hflag]

/-- Settles O55: CONFIG is the write of the options, which CTRL reads back; CLEAR is the write of STATUS. -/
theorem configAndClearWriteTheirFields : Obligations.ConfigAndClearWriteTheirFields := by
  unfold Obligations.ConfigAndClearWriteTheirFields
  refine fun s v => ⟨fun hidle => ?_, fun hbusy => ?_, decodeRegWrite_config, fun hidle t ht => ?_, rfl, ?_⟩
  · rw [exec_config, State.writeOptions_of_idle hidle]
  · rw [exec_config, State.writeOptions_of_busy hbusy]
  · cases ht
    exact s.writeOptions_ctrlWord v hidle
  · exact congrArg Host.Outcome.next (s.clearStatus_eq v)

/-! ## The parameters, and the ignored writes (R174, R175) -/

theorem State.ifIdle_of_idle {s : State} (h : s.busy = false) (t : State) : s.ifIdle t = t := if_neg (Bool.eq_false_iff.1 h)

theorem State.ifIdle_of_busy {s : State} (h : s.busy = true) (t : State) : s.ifIdle t = s := if_pos h

theorem exec_setIndex (v : Word) (s : State) : exec (.setIndex v) s = .next (s.ifIdle { s with index := v }) := rfl

theorem exec_setBufSize (v : Word) (s : State) : exec (.setBufSize v) s = .next (s.ifIdle { s with bufSize := v }) := rfl

theorem exec_setInLen (v : Word) (s : State) : exec (.setInLen v) s =
    .next (s.ifIdle { s with inLen := BitVec.ofNat 32 (Nat.min v.toNat s.par.inMemSize) }) := rfl

/-- Settles O56: the three parameters are written only while the engine is stopped, and the clipped IN_LEN fits its register. -/
theorem parametersWrittenWhenIdle : Obligations.ParametersWrittenWhenIdle := by
  unfold Obligations.ParametersWrittenWhenIdle
  intro s v off _
  refine ⟨fun hidle => ?_, fun hbusy => ?_, rfl, rfl, rfl, rfl, fun hoff => decodeRegWrite_ignored hoff v⟩
  · have hclipped : Nat.min v.toNat s.par.inMemSize < 2 ^ 32 := lt_of_le_of_lt (Nat.min_le_left _ _) v.isLt
    rw [exec_setIndex, exec_setBufSize, exec_setInLen]
    simp only [State.ifIdle_of_idle hidle]
    exact ⟨trivial, trivial, _, (BitVec.toNat_ofNat _ _).trans (Nat.mod_eq_of_lt hclipped), rfl⟩
  · rw [exec_setIndex, exec_setBufSize, exec_setInLen]
    simp only [State.ifIdle_of_busy hbusy, and_self]

/-! ## Register reads (R176) -/

theorem exec_readReg (off : BitVec 8) (s : State) : exec (.readReg off) s = .next { s with readData := s.readRegister off } := rfl

/-- A register that is no result reads its stored value at all times. -/
theorem State.readRegister_of_not_result {off : BitVec 8} (h : isResultOffset off = false) (s : State) :
    s.readRegister off = s.regWord off := by
  rw [State.readRegister, h, Bool.and_false]
  rfl

theorem State.readRegister_of_idle {s : State} (h : s.busy = false) (off : BitVec 8) : s.readRegister off = s.regWord off := by
  rw [State.readRegister, h]
  rfl

theorem State.readRegister_of_busy {s : State} (h : s.busy = true) {off : BitVec 8} (hfirst : 0x14 ≤ off.toNat)
    (hlast : off.toNat ≤ 0x2C) : s.readRegister off = Config.busyRead s.epoch off :=
  if_pos (by simp [h, isResultOffset, hfirst, hlast])

/-- The registers end at BITPOS, offset 0x2C (10_state.md R10). -/
theorem State.regWord_reserved {off : BitVec 8} (h : 0x30 ≤ off.toNat) (s : State) : s.regWord off = 0 := by
  have hne : ∀ c : BitVec 8, c.toNat < 0x30 → off ≠ c := by
    rintro c hc rfl
    omega
  simp [State.regWord, hne]

/-- BITPOS is 8*IP - BITCNT modulo 2^32 (10_state.md R21). -/
theorem State.bitPos_toNat (s : State) : s.bitPos.toNat = (8 * s.ip.toNat + (2 ^ 32 - s.bitCnt.toNat)) % 2 ^ 32 := by
  have hcnt := s.bitCnt.isLt
  rw [State.bitPos, BitVec.toNat_sub, BitVec.toNat_shiftLeft, BitVec.toNat_setWidth, Nat.shiftLeft_eq]
  omega

/-- Settles O57: each offset is a result register or none, and the value it stores is the model's register at that offset. -/
theorem registerReads : Obligations.RegisterReads := by
  unfold Obligations.RegisterReads
  intro s off
  have hother : isResultOffset off = false → s.readRegister off = s.regWord off := fun h => s.readRegister_of_not_result h
  refine ⟨s.readRegister off, exec_readReg off s, ?_, ?_, ?_, ?_, ?_, fun hoff => ?_, fun hidle => ?_, fun hbusy => ?_⟩
  · rintro rfl
    exact (congrArg BitVec.toNat (hother rfl)).trans s.ctrlWord_toNat
  · rintro rfl
    exact (congrArg BitVec.toNat (hother rfl)).trans s.statusWord_toNat
  · rintro rfl
    exact hother rfl
  · rintro rfl
    exact hother rfl
  · rintro rfl
    exact hother rfl
  · have hresult : isResultOffset off = false := by
      rw [isResultOffset, decide_eq_false (by omega : ¬ off.toNat ≤ 0x2C), Bool.and_false]
    rw [hother hresult, State.regWord_reserved hoff]
  · rw [State.readRegister_of_idle hidle]
    refine ⟨fun h => h ▸ rfl, fun h => h ▸ rfl, fun h => h ▸ rfl, fun h => h ▸ rfl, fun h => h ▸ rfl, fun h => h ▸ rfl, fun h => ?_⟩
    have hbitPos : s.regWord off = s.bitPos := h ▸ rfl
    rw [hbitPos, State.bitPos_toNat, Nat.mod_mod]
  · exact State.readRegister_of_busy hbusy

/-! ## The windows of IN and OUT (R177, R178; 20_memory.md R46) -/

theorem readLittle_lt (byte : Nat → Byte) (n a : Nat) : readLittle byte n a < 2 ^ (8 * n) := by
  induction n generalizing a with
  | zero => exact Nat.one_pos
  | succ n ih =>
    have hhigh := ih (a + 1)
    have hlow := (byte a).isLt
    rw [readLittle, show 8 * (n + 1) = 8 * n + 8 by omega, Nat.pow_add]
    omega

/-- Bits 8k+7 .. 8k of a read are byte k of the range. -/
theorem readLittle_byte (byte : Nat → Byte) {n k : Nat} (a : Nat) (h : k < n) :
    readLittle byte n a / 2 ^ (8 * k) % 2 ^ 8 = (byte (a + k)).toNat := by
  induction n generalizing a k with
  | zero => omega
  | succ n ih =>
    have hlow := (byte a).isLt
    cases k with
    | zero =>
      rw [readLittle, Nat.mul_zero, Nat.pow_zero, Nat.div_one, Nat.add_zero a]
      omega
    | succ k =>
      have hrest : readLittle byte (n + 1) a / 2 ^ 8 = readLittle byte n (a + 1) := by
        rw [readLittle]
        omega
      rw [show 8 * (k + 1) = 8 + 8 * k by omega, Nat.pow_add, ← Nat.div_div_eq_div_mul, hrest, ih (a + 1) (by omega),
        Nat.add_right_comm, Nat.add_assoc]

/-- A window access is no wider than a word. -/
theorem readLittle_width_toNat (byte : Nat → Byte) (w : Width) (a : Nat) :
    (BitVec.ofNat 32 (readLittle byte w.bytes a)).toNat = readLittle byte w.bytes a := by
  have hwidth : 8 * w.bytes ≤ 32 := by cases w <;> decide
  exact Nat.mod_eq_of_lt (lt_of_lt_of_le (readLittle_lt byte w.bytes a) (Nat.pow_le_pow_right (by decide) hwidth))

/-- What a window read returns, byte by byte. -/
theorem readLittle_width_bytes (byte : Nat → Byte) (w : Width) (a : Nat) :
    (BitVec.ofNat 32 (readLittle byte w.bytes a)).toNat < 2 ^ (8 * w.bytes) ∧
    ∀ k, k < w.bytes → (BitVec.ofNat 32 (readLittle byte w.bytes a)).toNat / 2 ^ (8 * k) % 2 ^ 8 = (byte (a + k)).toNat := by
  rw [readLittle_width_toNat]
  exact ⟨readLittle_lt byte w.bytes a, fun k hk => readLittle_byte byte a hk⟩

section Access

variable {s : State} {a : MemAccess}

theorem exec_inAccess_read (hread : a.wdata = none) (hlegal : a.legal s.par.inMemSize = true) : exec (.inAccess a) s =
    .next { s with readData := BitVec.ofNat 32 (readLittle s.inByte a.width.bytes a.offset) } := by
  show execInAccess a s = _
  rw [execInAccess, if_pos hlegal, hread]

theorem exec_outAccess_read (hread : a.wdata = none) (hlegal : a.legal s.par.outMemSize = true) : exec (.outAccess a) s =
    .next { s with readData := BitVec.ofNat 32 (readLittle s.outByte a.width.bytes a.offset) } := by
  show execOutAccess a s = _
  rw [execOutAccess, if_pos hlegal, hread]

theorem exec_inAccess_write {v : Word} (hwrite : a.wdata = some v) (hlegal : a.legal s.par.inMemSize = true) :
    exec (.inAccess a) s = if s.busy then .refused .hostWriteWhileBusy
      else .next { s with inMem := putLittle a.width.bytes s.inMem a.offset v.toNat } := by
  show execInAccess a s = _
  rw [execInAccess, if_pos hlegal, hwrite]

theorem exec_outAccess_write {v : Word} (hwrite : a.wdata = some v) (hlegal : a.legal s.par.outMemSize = true) :
    exec (.outAccess a) s = if s.busy then .refused .hostWriteWhileBusy
      else .next { s with outMem := putLittle a.width.bytes s.outMem a.offset v.toNat } := by
  show execOutAccess a s = _
  rw [execOutAccess, if_pos hlegal, hwrite]

end Access

/-- Settles O58: a read of a window is the little-endian value of the bytes that stand there, in both windows. -/
theorem windowReadsReturnBytes : Obligations.WindowReadsReturnBytes := by
  unfold Obligations.WindowReadsReturnBytes
  intro s a hread
  exact ⟨fun hlegal => ⟨_, exec_inAccess_read hread hlegal, readLittle_width_bytes s.inByte a.width a.offset⟩,
    fun hlegal => ⟨_, exec_outAccess_read hread hlegal, readLittle_width_bytes s.outByte a.width a.offset⟩⟩

/-- The bytes of a memory after a little-endian write, whatever the bytes nothing has written read as: the value's own bytes in its
range, the old ones elsewhere. -/
theorem putLittle_getD (n : Nat) (m : Mem) (a v : Nat) (free : Nat → Byte) :
    (∀ k, k < n → ((putLittle n m a v).get (a + k)).getD (free (a + k)) = BitVec.ofNat 8 (v / 2 ^ (8 * k))) ∧
    ∀ x, x < a ∨ a + n ≤ x → ((putLittle n m a v).get x).getD (free x) = (m.get x).getD (free x) :=
  ⟨fun k hk => by rw [putLittle_get n m a v k hk, Option.getD_some], fun x hx => by rw [putLittle_get_other n m a v x hx]⟩

/-- Settles O59: while the engine is stopped a write of a window is the little-endian write of its memory, whose other bytes stay. -/
theorem windowWritesStoreBytes : Obligations.WindowWritesStoreBytes := by
  unfold Obligations.WindowWritesStoreBytes
  intro s a v hwrite
  refine ⟨fun hidle hlegal => ?_, fun hidle hlegal => ?_, fun hbusy hlegal => ?_, fun hbusy hlegal => ?_⟩
  · rw [exec_inAccess_write hwrite hlegal, if_neg (Bool.eq_false_iff.1 hidle)]
    exact ⟨_, rfl, rfl, putLittle_getD a.width.bytes s.inMem a.offset v.toNat Config.powerOnIn⟩
  · rw [exec_outAccess_write hwrite hlegal, if_neg (Bool.eq_false_iff.1 hidle)]
    exact ⟨_, rfl, rfl, putLittle_getD a.width.bytes s.outMem a.offset v.toNat (Config.freeOut s.outDraw)⟩
  · rw [exec_inAccess_write hwrite hlegal, if_pos hbusy]
  · rw [exec_outAccess_write hwrite hlegal, if_pos hbusy]

end Sys2Proof.Machine
end

section
/-! PROOFS. What a decode at a place of the stream can answer, whatever the input holds (30_encoding.md R63 to R75): an element of the
place, or an error of a read. -/

namespace Sys2Proof

open Sys2Proof.Machine

/-! ## The errors of a read -/

theorem Machine.fillTo_ne_raise (byte : Nat → Option Byte) (len need fuel : Nat) (r : Reader) (e : ErrorCode) (r' : Reader) :
    fillTo byte len need fuel r ≠ .raise e r' := by
  induction fuel generalizing r with
  | zero => nofun
  | succ fuel ih =>
    rw [fillTo]
    split_ifs
    · cases byte r.ip with
      | none => nofun
      | some b => exact ih _
    · nofun

/-- A read raises TruncatedInput or InvalidCode, if it raises (40_bitreader.md R91, R92). -/
def Machine.Read.RaisesReadError (x : Read α) : Prop := ∀ e r, x = .raise e r → e = .truncatedInput ∨ e = .invalidCode

theorem Machine.readBits_raisesReadError (byte : Nat → Option Byte) (len n : Nat) (r : Reader) :
    (readBits byte len n r).RaisesReadError := by
  intro e r' h
  unfold readBits at h
  split at h
  · split at h
    · cases h
      exact .inl rfl
    · cases h
  · next hfill => exact absurd hfill (fillTo_ne_raise _ _ _ _ _ _ _)
  · cases h

theorem Machine.readCode_raisesReadError (byte : Nat → Option Byte) (len : Nat) (t : Table) (r : Reader) :
    (readCode byte len t r).RaisesReadError := by
  intro e r' h
  unfold readCode at h
  split at h
  · split at h
    · cases h
      exact .inr rfl
    · split at h
      · cases h
        exact .inl rfl
      · cases h
  · next hfill => exact absurd hfill (fillTo_ne_raise _ _ _ _ _ _ _)
  · cases h

theorem Machine.readByte_raisesReadError (byte : Nat → Option Byte) (r : Reader) : (readByte byte r).RaisesReadError := by
  intro e r' h
  unfold readByte at h
  split at h <;> cases h

/-! ## The elements of a place -/

/-- The elements that can stand at a place of the stream. -/
def Ctx.Names : Ctx → Instr → Prop
  | .zhdr, i => ∃ cmf flg, i = .zhdr cmf flg
  | .block, i => ∃ f t, i = blockOf f t
  | .stored, i => ∃ len nlen, i = .lenNlen len nlen
  | .data, i => ∃ b, i = .data b
  | .dyn, i => ∃ hlit hdist hclen, i = .dyn hlit hdist hclen
  | .cll, i => ∃ l, i = .cll l
  | .cl _, i => i.clSymbol.isSome
  | .litLen _ _, i => i.isLitLen
  | .dist _ _, i => i.isDist
  | .trailer, i => ∃ w, i = .trailer w

/-- A decode at a place answers an element of the place, or raises an error of a read or of a short header. -/
def Decoded.Answers (c : Ctx) : Decoded → Prop
  | .instr i _ => c.Names i
  | .raise e _ _ => e = .truncatedInput ∨ e = .invalidCode ∨ e = .invalidStoredBlockHeader
  | .noByte _ => True

theorem Machine.Read.RaisesReadError.thenDecode {x : Read α} (hx : x.RaisesReadError) {c : Ctx} {got : List Nat}
    {k : α → Reader → Decoded} (hk : ∀ a r, (k a r).Answers c) : (x.thenDecode got k).Answers c := by
  cases x with
  | ok a r => exact hk a r
  | raise e r => exact (hx e r rfl).imp_right .inl
  | noByte a => trivial

section Places

variable (byte : Nat → Option Byte) (len : Nat) (r : Reader)

/-- Four whole bytes after byteAlign (30_encoding.md R65, R75). -/
theorem fourBytes_answers {c : Ctx} {f : Byte → Byte → Byte → Byte → Instr}
    (hf : ∀ b₀ b₁ b₂ b₃, c.Names (f b₀ b₁ b₂ b₃)) :
    ((readByte byte r.byteAlign).thenDecode [] fun b₀ r => (readByte byte r).thenDecode [] fun b₁ r =>
      (readByte byte r).thenDecode [] fun b₂ r => (readByte byte r).thenDecode [] fun b₃ r =>
        .instr (f b₀ b₁ b₂ b₃) r).Answers c :=
  (readByte_raisesReadError _ _).thenDecode fun _ _ => (readByte_raisesReadError _ _).thenDecode fun _ _ =>
    (readByte_raisesReadError _ _).thenDecode fun _ _ => (readByte_raisesReadError _ _).thenDecode fun _ _ => hf _ _ _ _

/-- A data byte is there, or its address does not exist (42_block_decoder.md R113). -/
theorem decodeData_ne_raise (e : ErrorCode) (r' : Reader) (got : List Nat) : decodeData byte r ≠ .raise e r' got := by
  unfold decodeData readByte
  cases byte r.ip <;> nofun

theorem decodeDist_answers (fixed : Bool) (t : Table) : (decodeDist byte len fixed t r).Answers (.dist fixed t) := by
  have hcode := readCode_raisesReadError byte len t r
  unfold decodeDist
  cases hx : readCode byte len t r with
  | ok d r₁ =>
    by_cases hd : 30 ≤ d
    · simp only [if_pos hd]
      exact .inr (.inl ⟨_, rfl⟩)
    · simp only [if_neg hd]
      refine (readBits_raisesReadError _ _ _ _).thenDecode fun e r₂ => ?_
      cases fixed
      · exact .inl rfl
      · exact fixedDistanceOf_isDist e (by omega)
  | raise e r₁ =>
    show (decodeEmptyDistance e fixed r₁).Answers _
    unfold decodeEmptyDistance
    split_ifs
    · exact .inr (.inr (.inl rfl))
    · exact .inr (.inr (.inr rfl))
    · exact (hcode e r₁ hx).imp_right .inl
  | noByte a => trivial

theorem decode_answers (c : Ctx) : (decode c byte len r).Answers c := by
  cases c with
  | zhdr =>
    show (decodeZhdr byte len r).Answers _
    unfold decodeZhdr
    split_ifs
    · exact .inl rfl
    · exact (readByte_raisesReadError _ _).thenDecode fun cmf _ => (readByte_raisesReadError _ _).thenDecode fun flg _ =>
        ⟨cmf, flg, rfl⟩
  | block =>
    exact (readBits_raisesReadError _ _ _ _).thenDecode fun f _ => (readBits_raisesReadError _ _ _ _).thenDecode fun t _ =>
      ⟨f, t, rfl⟩
  | stored =>
    show (decodeStored byte len r).Answers _
    unfold decodeStored
    split_ifs
    · exact .inr (.inr rfl)
    · exact fourBytes_answers byte r fun _ _ _ _ => ⟨_, _, rfl⟩
  | data =>
    show (decodeData byte r).Answers _
    unfold decodeData readByte
    cases byte r.ip with
    | some b => exact ⟨b, rfl⟩
    | none => trivial
  | dyn =>
    exact (readBits_raisesReadError _ _ _ _).thenDecode fun _ _ => (readBits_raisesReadError _ _ _ _).thenDecode fun _ _ =>
      (readBits_raisesReadError _ _ _ _).thenDecode fun _ _ => ⟨_, _, _, rfl⟩
  | cll => exact (readBits_raisesReadError _ _ _ _).thenDecode fun _ _ => ⟨_, rfl⟩
  | cl t =>
    exact (readCode_raisesReadError _ _ _ _).thenDecode fun sym _ =>
      (readBits_raisesReadError _ _ _ _).thenDecode fun e _ => clOf_clSymbol sym e
  | litLen fixed t =>
    refine (readCode_raisesReadError _ _ _ _).thenDecode fun sym _ =>
      (readBits_raisesReadError _ _ _ _).thenDecode fun e _ => ?_
    cases fixed
    · exact dynLitLenOf_isLitLen sym e
    · exact fixedLitLenOf_isLitLen sym e
  | dist fixed t => exact decodeDist_answers byte len r fixed t
  | trailer =>
    show (decodeTrailer byte len r).Answers _
    unfold decodeTrailer
    split_ifs
    · exact .inl rfl
    · exact fourBytes_answers byte r fun _ _ _ _ => ⟨_, rfl⟩

end Places

end Sys2Proof

namespace Sys2Proof.Machine

/-- A part that reads an element and ends: it ran an element of its place, or took the error its read raised. -/
theorem runPart_cases {s t : State} {c : Ctx} (hp : s.place = some c) (h : runPart exec s = .next t) :
    (∃ i r, c.Names i ∧ decode c s.readIn s.inLen.toNat s.reader = .instr i r ∧ exec i (s.withReader r) = .next t) ∨
    (c ≠ .data ∧ ∃ e r got, e ≠ .aborted ∧ t = ((s.withReader r).keepRead c got).enterError e) := by
  have hanswers := decode_answers s.readIn s.inLen.toNat s.reader c
  cases hd : decode c s.readIn s.inLen.toNat s.reader with
  | instr i r =>
    rw [hd] at hanswers
    rw [runPart_instr exec hp hd] at h
    exact .inl ⟨i, r, hanswers, rfl, h⟩
  | raise e r got =>
    rw [hd] at hanswers
    rw [runPart_raise exec hp hd] at h
    cases h
    refine .inr ⟨?_, e, r, got, ?_, rfl⟩
    · rintro rfl
      exact decodeData_ne_raise _ _ _ _ _ hd
    · rcases hanswers with rfl | rfl | rfl <;> decide
  | noByte a =>
    simp only [runPart, State.fetch, hp, State.fetchAt, hd, Res.finish] at h
    cases h

end Sys2Proof.Machine
end

section
/-! PROOFS. Errors (60_exceptions.md R180 to R183): error entry, and that a step which raises has written no byte of OUT. -/

namespace Sys2Proof.Machine

/-! ## The relations -/

/-- OUT, OP and CAP are as they were. -/
structure State.SameOutput (s t : State) : Prop where
  outMem : t.outMem = s.outMem
  op : t.op = s.op
  cap : t.cap = s.cap

/-- An error of the engine is taken in t, with the output as it was in s. -/
def State.RaisesTo (s t : State) : Prop := ∃ e u, e ≠ .aborted ∧ s.SameOutput u ∧ t = u.enterError e

/-- t is no error, and of a step that has written output since s no part is left, or data bytes alone, which cannot raise. -/
def State.GoesOnTo (s t : State) : Prop :=
  t.fsm ≠ .error ∧ (s.SameOutput t ∨ t.pend = .none ∨ ∃ k, t.pend = .storedData k)

/-- An operation that raises has left the output as it was in s. -/
def Res.RaisesPrecisely (s : State) : Res → Prop
  | .ok t => s.GoesOnTo t
  | .raise e t => e ≠ .aborted ∧ s.SameOutput t
  | .fault _ => True

/-- A part of a step that ends, in an error or not. -/
def EndsPrecisely (s : State) (x : Host.Outcome State Fault Refusal) : Prop := ∀ t, x = .next t → s.RaisesTo t ∨ s.GoesOnTo t

theorem State.SameOutput.refl (s : State) : s.SameOutput s := ⟨rfl, rfl, rfl⟩

theorem State.SameOutput.trans {s t u : State} (h₁ : s.SameOutput t) (h₂ : t.SameOutput u) : s.SameOutput u :=
  ⟨h₂.outMem.trans h₁.outMem, h₂.op.trans h₁.op, h₂.cap.trans h₁.cap⟩

theorem State.SameOutput.raisesTo {s t u : State} (h : s.SameOutput t) (hu : t.RaisesTo u) : s.RaisesTo u := by
  obtain ⟨e, v, he, hv, rfl⟩ := hu
  exact ⟨e, v, he, h.trans hv, rfl⟩

theorem State.SameOutput.goesOnTo {s t u : State} (h : s.SameOutput t) (hu : t.GoesOnTo u) : s.GoesOnTo u :=
  ⟨hu.1, hu.2.imp_left h.trans⟩

theorem EndsPrecisely.of_sameOutput {s t : State} (h : s.SameOutput t) {x : Host.Outcome State Fault Refusal}
    (hx : EndsPrecisely t x) : EndsPrecisely s x := fun u hu => (hx u hu).imp h.raisesTo h.goesOnTo

theorem State.RaisesTo.pend_eq {s t : State} (h : s.RaisesTo t) : t.pend = .none := by
  obtain ⟨e, u, -, -, rfl⟩ := h
  exact State.enterError_pend u e

theorem EndsPrecisely.next {s t : State} (h : s.GoesOnTo t) : EndsPrecisely s (.next t) := by
  rintro _ ⟨⟩
  exact .inr h

theorem EndsPrecisely.fault (s : State) (f : Fault) : EndsPrecisely s (.fault f) := fun _ h => nomatch h

theorem EndsPrecisely.refused (s : State) (r : Refusal) : EndsPrecisely s (.refused r) := fun _ h => nomatch h

theorem Res.RaisesPrecisely.finish {s : State} {x : Res} (h : x.RaisesPrecisely s) : EndsPrecisely s x.finish := by
  intro t ht
  cases x with
  | ok u =>
    cases ht
    exact .inr h
  | raise e u =>
    cases ht
    exact .inl ⟨e, u, h.1, h.2, rfl⟩
  | fault f => cases ht

/-- What follows an operation that leaves the output where it raises. -/
theorem Res.RaisesPrecisely.andThen {s : State} {x : Res} (hraise : ∀ e t, x = .raise e t → e ≠ .aborted ∧ s.SameOutput t)
    {k : State → Res} (hk : ∀ t, x = .ok t → (k t).RaisesPrecisely s) : (x.andThen k).RaisesPrecisely s := by
  cases x with
  | ok t => exact hk t rfl
  | raise e t => exact hraise e t rfl
  | fault g => trivial

/-! ## The operations -/

/-- `grow` raises with nothing changed (44_output_growth.md R150). -/
theorem State.grow_raise_sameOutput {s t : State} {required : Nat} {ratio : Option Nat} {e : ErrorCode}
    (h : s.grow required ratio = .raise e t) : e ≠ .aborted ∧ s.SameOutput t := by
  obtain ⟨rfl, rfl⟩ := State.grow_raise h
  exact ⟨by decide, .refl _⟩

theorem State.emit_ne_raise (s : State) (b : Byte) (e : ErrorCode) (t : State) : s.emit b ≠ .raise e t := by
  rw [State.emit_eq]
  split_ifs <;> nofun

/-- A forward copy with room for it cannot raise (43_lz77_copy.md R144). -/
theorem copyForward_ne_raise (dist n : Nat) (s : State) (e : ErrorCode) (t : State) : copyForward dist n s ≠ .raise e t := by
  induction n generalizing s with
  | zero => nofun
  | succ n ih =>
    rw [copyForward]
    split_ifs
    · cases hx : s.emit (s.outByte (s.op.toNat - dist)) with
      | ok u => exact ih u
      | raise e u => exact absurd hx (s.emit_ne_raise _ e u)
      | fault f => nofun
    · nofun

theorem State.goesOnTo_of_pend (s : State) {t : State} (hf : t.fsm ≠ .error) (hp : t.pend = .none) : s.GoesOnTo t :=
  ⟨hf, .inr (.inl hp)⟩

theorem State.goesOnTo_blockEnd (s t : State) : s.GoesOnTo t.blockEnd :=
  s.goesOnTo_of_pend (by rw [State.blockEnd_fsm]; split_ifs <;> decide) (State.blockEnd_pend t)

/-- An operation that leaves S goes on in no error. -/
theorem fsm_ne_error_of_leaves {s t : State} (hf : s.fsm ≠ .error) {x : Res} (h : x.Leaves State.fsm s.fsm) (ht : x = .ok t) :
    t.fsm ≠ .error := by
  subst ht
  exact (show t.fsm = s.fsm from h) ▸ hf

/-- A literal or length symbol is read as the first part of a step (10_state.md R20). -/
theorem State.pend_eq_of_place_litLen {s : State} {fixed : Bool} {t : Table} (h : s.place = some (.litLen fixed t)) :
    s.pend = .none := by
  cases hp : s.pend <;> simp [State.place, hp] at h ⊢

/-! ## The elements -/

section Elements

variable {s : State} (hf : s.fsm ≠ .error)

theorem zlibHeader_raisesPrecisely (cmf flg : BitVec 8) (s : State) : (zlibHeader cmf flg s).RaisesPrecisely s := by
  unfold zlibHeader
  split_ifs
  · exact ⟨by decide, .refl s⟩
  · exact ⟨by decide, .refl s⟩
  · exact ⟨by decide, .refl s⟩
  · exact s.goesOnTo_of_pend nofun rfl

theorem exec_blockOf_endsPrecisely (f t : Nat) (s : State) : EndsPrecisely s (exec (blockOf f t) s) := by
  unfold blockOf
  split_ifs
  · exact .next (s.goesOnTo_of_pend nofun rfl)
  · exact .next (s.goesOnTo_of_pend nofun rfl)
  · exact .next (s.goesOnTo_of_pend nofun rfl)
  · exact Res.RaisesPrecisely.finish (x := .raise .unknownBlockType (s.setBlock _ 3)) ⟨by decide, rfl, rfl, rfl⟩

include hf

theorem storedHeader_raisesPrecisely (len nlen : BitVec 16) : (storedHeader len nlen s).RaisesPrecisely s := by
  unfold storedHeader
  split_ifs
  · exact ⟨by decide, .refl s⟩
  · exact ⟨by decide, .refl s⟩
  · refine .andThen (fun e t => State.grow_raise_sameOutput) fun t ht => ?_
    show s.GoesOnTo (t.beginData len.toNat)
    unfold State.beginData
    split_ifs
    · exact s.goesOnTo_blockEnd t
    · have hft : t.fsm ≠ .error := fsm_ne_error_of_leaves hf (State.grow_leaves ignoresOutput_fsm s _ _) ht
      exact ⟨hft, .inr (.inr ⟨_, rfl⟩)⟩

/-- A data byte is copied, or its address does not exist; it raises nothing (42_block_decoder.md R113). -/
theorem exec_data_goesOnTo {b : BitVec 8} {t : State} (h : exec (.data b) s = .next t) (u : State) : u.GoesOnTo t := by
  change (storedByte b s).finish = _ at h
  unfold storedByte at h
  cases hx : s.emit b with
  | ok v =>
    rw [hx] at h
    cases h
    unfold State.nextData
    split_ifs
    · exact u.goesOnTo_blockEnd v
    · have hfv : v.fsm ≠ .error := fsm_ne_error_of_leaves hf (State.emit_leaves ignoresOutput_fsm s b) hx
      exact ⟨hfv, .inr (.inr ⟨_, rfl⟩)⟩
  | raise e v => exact absurd hx (s.emit_ne_raise b e v)
  | fault f =>
    rw [hx] at h
    cases h

theorem exec_cll_endsPrecisely (l : BitVec 3) : EndsPrecisely s (exec (.cll l) s) := by
  show EndsPrecisely s (.next ((s.setClLen _ l).nextCll _))
  unfold State.nextCll
  split_ifs
  · exact .next ⟨hf, .inl ⟨rfl, rfl, rfl⟩⟩
  · exact .next (s.goesOnTo_of_pend nofun rfl)

theorem putLens_endClStep_goesOnTo (n : Nat) (v prev : BitVec 4) : s.GoesOnTo (s.putLens n v prev).endClStep := by
  unfold State.endClStep
  split_ifs
  · exact s.goesOnTo_of_pend nofun rfl
  · exact ⟨hf, .inl ⟨rfl, rfl, rfl⟩⟩

theorem exec_clSymbol_endsPrecisely {i : Instr} (hi : i.clSymbol.isSome) : EndsPrecisely s (exec i s) := by
  obtain ⟨p, hi⟩ := Option.isSome_iff_exists.1 hi
  rcases exec_of_clSymbol hi s with ⟨v, e⟩ | ⟨n, v, e⟩
  · rw [e]
    exact .next (putLens_endClStep_goesOnTo hf 1 v v)
  · rw [e]
    refine Res.RaisesPrecisely.finish ?_
    unfold repeatLength
    split_ifs
    · exact ⟨by decide, .refl s⟩
    · exact putLens_endClStep_goesOnTo hf n v v

/-- A literal makes its room before it writes (43_lz77_copy.md R141). -/
theorem literalByte_raisesPrecisely (hp : s.pend = .none) (v : BitVec 8) : (literalByte v s).RaisesPrecisely s := by
  rw [literalByte, s.growForLiteral_eq]
  refine .andThen (fun e t => State.grow_raise_sameOutput) fun t ht => ?_
  rw [State.grow_ok ht, State.emit_eq]
  split_ifs
  · exact s.goesOnTo_of_pend hf hp
  · trivial

theorem exec_litLen_endsPrecisely (hp : s.pend = .none) {i : Instr} (hi : i.isLitLen) : EndsPrecisely s (exec i s) := by
  rcases hi with hi | rfl | rfl | hi
  · obtain ⟨v, hi⟩ := Option.isSome_iff_exists.1 hi
    rw [exec_of_literalOf hi]
    exact (literalByte_raisesPrecisely hf hp v).finish
  · exact .next (s.goesOnTo_blockEnd _)
  · exact .next (s.goesOnTo_blockEnd _)
  · obtain ⟨n, hi⟩ := Option.isSome_iff_exists.1 hi
    rw [exec_of_lengthOf hi]
    exact .next ⟨hf, .inl ⟨rfl, rfl, rfl⟩⟩

/-- A match checks its distance and makes its room before it copies (43_lz77_copy.md R143). -/
theorem copyMatch_raisesPrecisely (dist : Nat) : (copyMatch dist s).RaisesPrecisely s := by
  unfold copyMatch
  split_ifs
  · exact ⟨by decide, .refl s⟩
  · refine .andThen (fun e t => State.grow_raise_sameOutput) fun t ht => ?_
    refine .andThen (fun e u hu => absurd hu (copyForward_ne_raise _ _ _ e u)) fun u hu => ?_
    have hft : t.fsm ≠ .error := fsm_ne_error_of_leaves hf (State.grow_leaves ignoresOutput_fsm s _ _) ht
    have hfu : u.fsm ≠ .error := fsm_ne_error_of_leaves hft (copyForward_leaves ignoresOutput_fsm dist _ t) hu
    exact s.goesOnTo_of_pend (t := u.setPend .none) hfu rfl

theorem exec_dist_endsPrecisely {i : Instr} (hi : i.isDist) : EndsPrecisely s (exec i s) := by
  rcases hi with hi | ⟨d, rfl⟩ | rfl | rfl
  · obtain ⟨d, hi⟩ := Option.isSome_iff_exists.1 hi
    rw [exec_of_distanceOf hi]
    exact (copyMatch_raisesPrecisely hf d).finish
  all_goals exact Res.RaisesPrecisely.finish (x := .raise _ s) ⟨by decide, .refl s⟩

theorem finishDecode_raisesPrecisely : (finishDecode s).RaisesPrecisely s := by
  unfold finishDecode
  split_ifs
  · exact ⟨hf, .inl ⟨rfl, rfl, rfl⟩⟩
  · exact s.goesOnTo_of_pend nofun rfl
  · trivial

omit hf in
theorem checkTrailer_raisesPrecisely (w : Word) (s : State) : (checkTrailer w s).RaisesPrecisely s := by
  unfold checkTrailer
  split_ifs
  · exact ⟨by decide, rfl, rfl, rfl⟩
  · exact s.goesOnTo_of_pend nofun rfl

/-- Every element, where it is read. -/
theorem exec_endsPrecisely {c : Ctx} (hc : s.place = some c) {i : Instr} (hi : c.Names i) : EndsPrecisely s (exec i s) := by
  cases c with
  | zhdr =>
    obtain ⟨cmf, flg, rfl⟩ := hi
    exact (zlibHeader_raisesPrecisely cmf flg s).finish
  | block =>
    obtain ⟨f, t, rfl⟩ := hi
    exact exec_blockOf_endsPrecisely f t s
  | stored =>
    obtain ⟨len, nlen, rfl⟩ := hi
    exact (storedHeader_raisesPrecisely hf len nlen).finish
  | data =>
    obtain ⟨b, rfl⟩ := hi
    exact fun t ht => .inr (exec_data_goesOnTo hf ht s)
  | dyn =>
    obtain ⟨x, y, z, rfl⟩ := hi
    exact .next ⟨hf, .inl ⟨rfl, rfl, rfl⟩⟩
  | cll =>
    obtain ⟨l, rfl⟩ := hi
    exact exec_cll_endsPrecisely hf l
  | cl t => exact exec_clSymbol_endsPrecisely hf hi
  | litLen fixed t => exact exec_litLen_endsPrecisely hf (State.pend_eq_of_place_litLen hc) hi
  | dist fixed t => exact exec_dist_endsPrecisely hf hi
  | trailer =>
    obtain ⟨w, rfl⟩ := hi
    exact (checkTrailer_raisesPrecisely w s).finish

end Elements

/-! ## The parts and the step -/

/-- The engine's steps that read no bits. -/
theorem exec_internalStep_endsPrecisely {s : State} (hf : s.fsm ≠ .error) (hp : s.pend ≠ .startStep) {i : Instr}
    (hi : s.internalStep = some i) : EndsPrecisely s (exec i s) := by
  unfold State.internalStep at hi
  split at hi
  case h_1 hp' => exact absurd hp' hp
  case h_2 =>
    cases hi
    exact .next (s.goesOnTo_of_pend nofun rfl)
  case h_3 =>
    cases hi
    exact (finishDecode_raisesPrecisely hf).finish
  case h_4 => cases hi

theorem State.keepRead_sameOutput (s : State) (c : Ctx) (got : List Nat) : s.SameOutput (s.keepRead c got) := by
  unfold State.keepRead
  split <;> exact ⟨rfl, rfl, rfl⟩

theorem State.withReader_sameOutput (s : State) (r : Reader) : s.SameOutput (s.withReader r) := ⟨rfl, rfl, rfl⟩

theorem runPart_endsPrecisely {s : State} (hf : s.fsm ≠ .error) (hp : s.pend ≠ .startStep) : EndsPrecisely s (runPart exec s) := by
  intro t ht
  cases hc : s.place with
  | some c =>
    rcases runPart_cases hc ht with ⟨i, r, hi, -, he⟩ | ⟨-, e, r, got, he, rfl⟩
    · exact (exec_endsPrecisely (s := s.withReader r) hf hc hi).of_sameOutput (s.withReader_sameOutput r) t he
    · exact .inl ⟨e, _, he, (s.withReader_sameOutput r).trans (State.keepRead_sameOutput _ c got), rfl⟩
  | none =>
    cases hi : s.internalStep with
    | some i =>
      rw [runPart_internal exec hc hi] at ht
      exact exec_internalStep_endsPrecisely hf hp hi t ht
    | none =>
      simp only [runPart, State.fetch, hc, hi, Res.finish] at ht
      cases ht

/-- A part that copies a stored data byte raises nothing, whatever was written before. -/
theorem runPart_data_goesOnTo {s t : State} (hf : s.fsm ≠ .error) {k : Nat} (hp : s.pend = .storedData k)
    (h : runPart exec s = .next t) (u : State) : u.GoesOnTo t := by
  have hc : s.place = some .data := by simp only [State.place, hp]
  rcases runPart_cases hc h with ⟨i, r, ⟨b, rfl⟩, -, he⟩ | ⟨hdata, -⟩
  · exact exec_data_goesOnTo (s := s.withReader r) hf he u
  · exact absurd rfl hdata

theorem runParts_endsPrecisely (n : Nat) {s u : State} (h : s.GoesOnTo u) (hp : u.pend ≠ .startStep)
    (hsize : u.par.outMemSize ≤ 2 ^ 31) : EndsPrecisely s (runParts exec n u) := by
  induction n generalizing u with
  | zero => exact .next h
  | succ n ih =>
    by_cases hnone : u.pend = .none
    · rw [runParts_done hnone]
      exact .next h
    · rw [runParts_succ exec hnone]
      obtain ⟨hf, hout⟩ := h
      cases hr : runPart exec u with
      | next v =>
        have hcont : u.Continues v := runPart_continues hsize hp v hr
        have hrest (hv : s.GoesOnTo v) := ih hv (hcont.no_start hp) (hcont.par_eq ▸ hsize)
        rcases hout with hsame | hnone' | ⟨k, hk⟩
        · rcases runPart_endsPrecisely hf hp v hr with hraise | hgoes
          · intro t ht
            change runParts exec n v = .next t at ht
            rw [runParts_done hraise.pend_eq] at ht
            cases ht
            exact .inl (hsame.raisesTo hraise)
          · exact hrest (hsame.goesOnTo hgoes)
        · exact absurd hnone' hnone
        · exact hrest (runPart_data_goesOnTo hf hk hr s)
      | fault f => exact .fault s f
      | refused r => exact .refused s r

/-- An engine step ends with an error that left the output, or with none. -/
theorem step_endsPrecisely {s : State} (h : s.Inv) (hscript : s.script = []) (hb : s.busy = true) : EndsPrecisely s (step s) := by
  intro t hstep
  obtain ⟨u, hfirst, -, hrest⟩ := h.exists_runPart hscript hb hstep
  have hsize : s.advance.par.outMemSize ≤ 2 ^ 31 := (h.decoding hb).1.outMemSize_le
  have hf : s.advance.fsm ≠ .error := by
    intro hf
    have hf' : s.fsm = .error := hf
    simp [State.busy, hf', Fsm.running] at hb
  have hp : s.advance.pend ≠ .startStep := by simp [h.pend_eq]
  have hcont : s.advance.Continues u := runPart_continues hsize hp u hfirst
  have hadvance : s.SameOutput s.advance := ⟨rfl, rfl, rfl⟩
  rcases runPart_endsPrecisely hf hp u hfirst with hraise | hgoes
  · rw [runParts_done hraise.pend_eq] at hrest
    cases hrest
    exact .inl (hadvance.raisesTo hraise)
  · exact runParts_endsPrecisely maxParts (hadvance.goesOnTo hgoes) (hcont.no_start hp) (hcont.par_eq ▸ hsize) t hrest

/-! ## The statements -/

/-- No error has the code 0, and only ABORT's has the code 0x0E (60_exceptions.md R180). -/
theorem ErrorCode.code_raised {e : ErrorCode} (h : e ≠ .aborted) : e.code ≠ 0 ∧ e.code ≠ 0x0E := by
  cases e
  case aborted => exact absurd rfl h
  all_goals decide

/-- Settles O9: whatever raises does so before it writes, and after a stored block's first data byte nothing is left that can raise. -/
theorem errorsArePrecise : Obligations.ErrorsArePrecise := by
  unfold Obligations.ErrorsArePrecise
  intro s t h hscript hb hstep herror
  obtain ⟨-, hbelow, -⟩ := outputBelowCursorIsFinal s t h hscript hb hstep
  have hdone : t.done = false := by
    obtain ⟨-, -, -, -, -, -, ⟨hdone, -⟩, -⟩ := invKeptByEveryStep s t h hstep
    by_contra hd
    exact absurd ((hdone (by simpa using hd)).symm.trans herror) (by decide)
  rcases step_endsPrecisely h hscript hb t hstep with ⟨e, u, he, ⟨hout, hop, hcap⟩, rfl⟩ | ⟨hno, -⟩
  · obtain ⟨hzero, habort⟩ := ErrorCode.code_raised he
    exact ⟨hout, hbelow, hop, hcap, rfl, hop, rfl, rfl, hdone, hzero, habort⟩
  · exact absurd herror hno

/-- Settles O51: error entry is one update of the state. -/
theorem errorEntryRecords : Obligations.ErrorEntryRecords := by
  unfold Obligations.ErrorEntryRecords
  refine fun s e => ⟨rfl, rfl, ?_, ?_⟩
  · rw [State.irq, State.enterError_ie, State.enterError_err, Bool.or_true, Bool.and_true]
  · cases e <;> rfl

end Sys2Proof.Machine
end

section
/-! PROOFS. What a running decode sees of the state (70_reset_and_hazards.md R205): the operations of the engine do the same on a state
whose unseen fields are cleared. -/

namespace Sys2Proof.Machine

/-! ## What a decode sees -/

/-- The code-length code lengths a dynamic header has read so far, the other entries 0 (42_block_decoder.md R114). -/
def State.clLenSeen (s : State) : Vector (BitVec 3) 19 :=
  match s.pend with
  | .clLengths i => zeroClLens (clOrder.drop i) s.clLen
  | _ => Vector.replicate 19 0

/-- LENS where a dynamic header has cleared it and its tables are not yet built (R114 to R119). -/
def State.lensSeen (s : State) : Vector (BitVec 4) 320 :=
  match s.fsm with
  | .clens | .dynbuild => s.lens
  | _ => Vector.replicate 320 0

/-- CLT where a dynamic header has built it and its symbols are being read (R114, R115). -/
def State.cltSeen (s : State) : Table :=
  match s.fsm with
  | .clens => s.clt
  | _ => { max := 0, min := 0, slots := [] }

/-- The state without the memories and registers that a decode may not look at, or only after it has written them: IN, whose bytes are
compared apart, CLLEN, LENS, CLT, CTRL.IE and the model's own fields that belong to the host or pick free values. -/
def State.bare (s : State) : State :=
  { s with
    ie := false, clLen := Vector.replicate 19 0, lens := Vector.replicate 320 0, clt := { max := 0, min := 0, slots := [] }
    inMem := [], refusedMark := false, readData := 0, epoch := 0, outDraw := 0 }

/-- The state as a running decode sees it, but for the bytes of IN. -/
def State.seen (s : State) : State := { s.bare with clLen := s.clLenSeen, lens := s.lensSeen, clt := s.cltSeen }

/-- Two states look the same if they do so field by field. -/
theorem State.seen_eq {s t : State} (hbare : s.bare = t.bare) (hclLen : s.clLenSeen = t.clLenSeen) (hlens : s.lensSeen = t.lensSeen)
    (hclt : s.cltSeen = t.cltSeen) : s.seen = t.seen := by
  rw [State.seen, State.seen, hbare, hclLen, hlens, hclt]

/-- What stood in the entries that are zeroed does not matter. -/
theorem zeroClLens_congr {ks : List Nat} {v w : Vector (BitVec 3) 19} (h : ∀ k < 19, k ∉ ks → v[k]? = w[k]?) :
    zeroClLens ks v = zeroClLens ks w := by
  refine Vector.ext fun k hk => Option.some.inj ?_
  rw [← Vector.getElem?_eq_getElem hk, ← Vector.getElem?_eq_getElem hk, zeroClLens_getElem? ks v hk, zeroClLens_getElem? ks w hk]
  split_ifs with hmem
  · rfl
  · exact h k hk hmem

theorem zeroClLens_zeroClLens (ks : List Nat) (v : Vector (BitVec 3) 19) : zeroClLens ks (zeroClLens ks v) = zeroClLens ks v :=
  zeroClLens_congr fun k hk hmem => by rw [zeroClLens_getElem? ks v hk, if_neg hmem]

@[simp] theorem State.seen_clLenSeen (s : State) : s.seen.clLenSeen = s.clLenSeen := by
  have hpend : s.seen.pend = s.pend := rfl
  have hclLen : s.seen.clLen = s.clLenSeen := rfl
  unfold State.clLenSeen at *
  rw [hpend, hclLen]
  cases s.pend with
  | clLengths i => exact zeroClLens_zeroClLens _ _
  | _ => rfl

@[simp] theorem State.seen_lensSeen (s : State) : s.seen.lensSeen = s.lensSeen := by
  have hfsm : s.seen.fsm = s.fsm := rfl
  have hlens : s.seen.lens = s.lensSeen := rfl
  unfold State.lensSeen at *
  rw [hfsm, hlens]
  cases s.fsm <;> rfl

@[simp] theorem State.seen_cltSeen (s : State) : s.seen.cltSeen = s.cltSeen := by
  have hfsm : s.seen.fsm = s.fsm := rfl
  have hclt : s.seen.clt = s.cltSeen := rfl
  unfold State.cltSeen at *
  rw [hfsm, hclt]
  cases s.fsm <;> rfl

@[simp] theorem State.seen_seen (s : State) : s.seen.seen = s.seen :=
  State.seen_eq rfl s.seen_clLenSeen s.seen_lensSeen s.seen_cltSeen

theorem State.lensSeen_congr {s t : State} (hfsm : s.fsm = t.fsm) (hlens : s.lens = t.lens) : s.lensSeen = t.lensSeen := by
  rw [State.lensSeen, State.lensSeen, hfsm, hlens]

/-- In CLENS and in DYNBUILD a decode sees LENS. -/
theorem State.lensSeen_eq {s : State} (h : s.fsm = .clens ∨ s.fsm = .dynbuild) : s.lensSeen = s.lens := by
  rcases h with h | h <;> simp only [State.lensSeen, h]

/-- Of OUT the bytes below OP are listed, those the decode has written (20_memory.md R42). -/
abbrev State.Written (s : State) : Prop := s.outMem.map Prod.fst = List.range s.op.toNat

/-- The bytes of OUT that the decode has written do not depend on the draw (20_memory.md R42). -/
theorem State.seen_outByte {s : State} (h : s.Written) {a : Nat} (ha : a < s.op.toNat) :
    s.seen.outByte a = s.outByte a :=
  State.outByte_below h ha rfl

/-- Where the engine stands is seen. -/
theorem State.seen_place (s : State) : s.seen.place = s.place := by
  have hpend : s.seen.pend = s.pend := rfl
  have hfsm : s.seen.fsm = s.fsm := rfl
  have hclt : s.fsm = .clens → s.seen.clt = s.clt := fun h => by
    show s.cltSeen = s.clt
    simp only [State.cltSeen, h]
  unfold State.place
  rw [hpend, hfsm]
  cases s.pend with
  | none =>
    cases hf : s.fsm with
    | clens => exact congrArg (fun t => some (Ctx.cl t)) (hclt hf)
    | _ => rfl
  | _ => rfl

/-! ## Operations on what is seen -/

theorem State.pend_eq_of_place_cll {s : State} (h : s.place = some .cll) : ∃ i, s.pend = .clLengths i := by
  cases hp : s.pend
  case clLengths i => exact ⟨i, rfl⟩
  case none => cases hf : s.fsm <;> simp [State.place, hp, hf] at h
  all_goals simp [State.place, hp] at h

theorem State.fsm_eq_of_place_cl {s : State} {t : Table} (h : s.place = some (.cl t)) : s.fsm = .clens := by
  cases hp : s.pend
  case none => cases hf : s.fsm <;> simp [State.place, hp, hf] at h ⊢
  all_goals simp [State.place, hp] at h

def Res.seen : Res → Res
  | .ok s => .ok s.seen
  | .raise e s => .raise e s.seen
  | .fault f => .fault f

/-- The outcome of a part or a step as a decode sees it. -/
def seenOutcome : Host.Outcome State Fault Refusal → Host.Outcome State Fault Refusal
  | .next s => .next s.seen
  | .fault f => .fault f
  | .refused r => .refused r

theorem seenOutcome_next {s t : State} (h : s.seen = t.seen) : seenOutcome (.next s) = seenOutcome (.next t) :=
  congrArg Host.Outcome.next h

theorem Res.seen_ite {c : Prop} [Decidable c] {x x' y y' : Res} (hx : x.seen = x'.seen) (hy : y.seen = y'.seen) :
    (if c then x else y).seen = (if c then x' else y').seen := by
  split_ifs
  · exact hx
  · exact hy

theorem State.seen_ite {c : Prop} [Decidable c] {s s' t t' : State} (hs : s.seen = s'.seen) (ht : t.seen = t'.seen) :
    (if c then s else t).seen = (if c then s' else t').seen := by
  split_ifs
  · exact hs
  · exact ht

theorem Res.seen_raise (e : ErrorCode) (s : State) : (Res.raise e s.seen).seen = (Res.raise e s).seen :=
  congrArg (Res.raise e) s.seen_seen

theorem Res.seen_seen (x : Res) : x.seen.seen = x.seen := by
  cases x with
  | ok s => exact congrArg Res.ok s.seen_seen
  | raise e s => exact Res.seen_raise e s
  | fault f => rfl

/-- What follows an operation that does the same on what is seen. -/
theorem Res.seen_andThen {x : Res} {k : State → Res} (hk : ∀ t, x = .ok t → (k t.seen).seen = (k t).seen) :
    (x.seen.andThen k).seen = (x.andThen k).seen := by
  cases x with
  | ok t => exact hk t rfl
  | raise e t => exact Res.seen_raise e t
  | fault f => rfl

/-- Error entry leaves nothing unseen to be seen (60_exceptions.md R182). -/
theorem State.seen_enterError (s : State) (e : ErrorCode) : (s.seen.enterError e).seen = (s.enterError e).seen := rfl

theorem Res.seen_finish (x : Res) : seenOutcome x.seen.finish = seenOutcome x.finish := by
  cases x with
  | ok s => exact congrArg Host.Outcome.next s.seen_seen
  | raise e s => exact congrArg Host.Outcome.next (s.seen_enterError e)
  | fault f => rfl

theorem Res.seenOutcome_finish {x y : Res} (h : x.seen = y.seen) : seenOutcome x.finish = seenOutcome y.finish := by
  rw [← Res.seen_finish x, h, Res.seen_finish y]

/-- The fields a header element kept are seen (00_scope.md R7). -/
theorem State.seen_keepRead (s : State) (c : Ctx) (got : List Nat) : s.seen.keepRead c got = (s.keepRead c got).seen := by
  unfold State.keepRead
  split <;> rfl

theorem State.seen_goTo (s : State) {f : Fsm} (hc : f ≠ .clens) (hd : f ≠ .dynbuild) : (s.seen.goTo f).seen = (s.goTo f).seen := by
  cases f
  case clens => exact absurd rfl hc
  case dynbuild => exact absurd rfl hd
  all_goals rfl

theorem State.seen_blockEnd (s : State) : s.seen.blockEnd.seen = s.blockEnd.seen := by
  have hbfinal : s.seen.bfinal = s.bfinal := rfl
  unfold State.blockEnd
  rw [hbfinal]
  split_ifs <;> rfl

/-- ORDER names every entry of CLLEN (30_encoding.md R67). -/
theorem zeroClLens_clOrder (v : Vector (BitVec 3) 19) : zeroClLens clOrder v = Vector.replicate 19 0 := by
  have hall : ∀ k < 19, k ∈ clOrder := by decide
  have hzero : zeroClLens clOrder (Vector.replicate 19 0) = Vector.replicate 19 0 := by decide
  exact (zeroClLens_congr fun k hk hmem => absurd (hall k hk) hmem).trans hzero

/-- Before the first code-length code length none is seen. -/
theorem State.clLenSeen_setPend (s : State) {p : Pending} (hp : p.clNumber = 0) : (s.setPend p).clLenSeen = Vector.replicate 19 0 := by
  cases p with
  | clLengths i =>
    cases hp
    exact zeroClLens_clOrder s.clLen
  | _ => rfl

theorem State.seen_setPend (s : State) {p : Pending} (hp : p.clNumber = 0) : (s.seen.setPend p).seen = (s.setPend p).seen :=
  State.seen_eq rfl ((State.clLenSeen_setPend _ hp).trans (State.clLenSeen_setPend s hp).symm) s.seen_lensSeen s.seen_cltSeen

theorem State.seen_grow (s : State) (required : Nat) (ratio : Option Nat) : s.seen.grow required ratio = (s.grow required ratio).seen := by
  have hseen : s.seen.grow required ratio = if required ≤ s.cap.toNat then .ok s.seen
    else if s.par.outMemSize < required then .raise .outputOverflow s.seen
    else .ok { s.seen with cap := BitVec.ofNat 32 (s.grownCapacity required ratio) } := rfl
  rw [hseen, State.grow]
  split_ifs <;> rfl

theorem State.seen_emit (s : State) (b : Byte) : s.seen.emit b = (s.emit b).seen := by
  have hseen : s.seen.emit b = if s.op.toNat < s.par.outMemSize then
      .ok { s.seen with outMem := s.outMem.put s.op.toNat b, op := s.op + 1 } else .fault (.noOutAddress s.op.toNat) := rfl
  rw [hseen, State.emit]
  split_ifs <;> rfl

/-- A match copies bytes that the decode has written (43_lz77_copy.md R144). -/
theorem copyForward_seen {dist : Nat} (hpos : 1 ≤ dist) (n : Nat) {s : State} (hsize : s.par.outMemSize ≤ 2 ^ 31)
    (hlist : s.Written) (hnear : dist ≤ s.op.toNat) :
    copyForward dist n s.seen = (copyForward dist n s).seen := by
  induction n generalizing s with
  | zero => rfl
  | succ n ih =>
    have hseen : copyForward dist (n + 1) s.seen = if s.op.toNat - dist < s.par.outMemSize then
      (s.seen.emit (s.seen.outByte (s.op.toNat - dist))).andThen (copyForward dist n)
      else .fault (.noOutAddress (s.op.toNat - dist)) := rfl
    rw [hseen, copyForward, State.seen_outByte hlist (by omega), State.seen_emit]
    have hcont := State.emit_continues hsize (s.outByte (s.op.toNat - dist))
    split_ifs
    · cases hx : s.emit (s.outByte (s.op.toNat - dist)) with
      | ok t =>
        rw [hx] at hcont
        have ht : s.Continues t := hcont
        exact ih (ht.par_eq ▸ hsize) (ht.listed hlist) (le_trans hnear ht.op_le)
      | raise e t => rfl
      | fault f => rfl
    · rfl

theorem State.seen_loadAdler {s : State} (hlist : s.Written) :
    s.seen.loadAdler = s.loadAdler.seen := by
  have hbytes : s.seen.outBytes s.op.toNat 0 = s.outBytes s.op.toNat 0 := by
    rw [State.outBytes_eq_map, State.outBytes_eq_map, ← List.range_eq_range']
    exact List.map_congr_left fun a ha => State.seen_outByte hlist (List.mem_range.1 ha)
  show ({ s.seen with adler := adlerCalc (s.seen.outBytes s.op.toNat 0) } : State) = _
  rw [hbytes]
  rfl

/-! ## The elements on what is seen -/

theorem zlibHeader_seen (cmf flg : BitVec 8) (s : State) : (zlibHeader cmf flg s.seen).seen = (zlibHeader cmf flg s).seen := by
  unfold zlibHeader
  exact Res.seen_ite (Res.seen_raise _ s) (Res.seen_ite (Res.seen_raise _ s) (Res.seen_ite (Res.seen_raise _ s)
    (congrArg Res.ok (s.seen_goTo nofun nofun))))

theorem exec_blockOf_seen (f t : Nat) (s : State) : seenOutcome (exec (blockOf f t) s.seen) = seenOutcome (exec (blockOf f t) s) := by
  unfold blockOf
  split_ifs <;> rfl

theorem storedHeader_seen (len nlen : BitVec 16) (s : State) : (storedHeader len nlen s.seen).seen = (storedHeader len nlen s).seen := by
  refine Res.seen_ite (Res.seen_raise _ s) (Res.seen_ite (Res.seen_raise _ s) ?_)
  show (Res.andThen (s.seen.grow (s.op.toNat + len.toNat) (some storedGrowRatio)) _).seen = _
  rw [State.seen_grow]
  refine Res.seen_andThen fun t _ => congrArg Res.ok ?_
  exact State.seen_ite t.seen_blockEnd (t.seen_setPend rfl)

theorem storedByte_seen (b : BitVec 8) (s : State) : (storedByte b s.seen).seen = (storedByte b s).seen := by
  unfold storedByte
  rw [State.seen_emit]
  refine Res.seen_andThen fun t _ => congrArg Res.ok ?_
  exact State.seen_ite t.seen_blockEnd (t.seen_setPend rfl)

/-- The next code-length code length is written where none was seen (42_block_decoder.md R114). -/
theorem zeroClLens_setIfInBounds_congr (v : Vector (BitVec 3) 19) (i : Nat) (l : BitVec 3) :
    zeroClLens (clOrder.drop (i + 1)) ((zeroClLens (clOrder.drop i) v).setIfInBounds (clOrder.getD i 19) l) =
      zeroClLens (clOrder.drop (i + 1)) (v.setIfInBounds (clOrder.getD i 19) l) := by
  refine zeroClLens_congr fun k hk hmem => ?_
  rw [Vector.getElem?_setIfInBounds, Vector.getElem?_setIfInBounds]
  by_cases heq : clOrder.getD i 19 = k
  · rw [if_pos heq, if_pos heq]
  · have hdrop : k ∉ clOrder.drop i := by
      intro h
      rw [List.mem_drop_iff_getElem] at h hmem
      obtain ⟨j, hj, rfl⟩ := h
      cases j with
      | zero => exact heq (by simpa using List.getD_eq_getElem clOrder 19 hj)
      | succ j => exact hmem ⟨j, by omega, by simp only [Nat.add_right_comm, Nat.add_assoc]⟩
    rw [if_neg heq, if_neg heq, zeroClLens_getElem? _ _ hk, if_neg hdrop]

theorem exec_cll_seen {s : State} {i : Nat} (hp : s.pend = .clLengths i) (l : BitVec 3) :
    seenOutcome (exec (.cll l) s.seen) = seenOutcome (exec (.cll l) s) := by
  have hclLen : s.seen.clLen = zeroClLens (clOrder.drop i) s.clLen := by
    show s.clLenSeen = _
    simp only [State.clLenSeen, hp]
  have hnext := zeroClLens_setIfInBounds_congr s.clLen i l
  rw [← hclLen] at hnext
  rw [exec_cll (s := s.seen) hp, exec_cll hp]
  refine seenOutcome_next (State.seen_ite ?_ ?_)
  · exact State.seen_eq rfl hnext s.seen_lensSeen s.seen_cltSeen
  · refine State.seen_eq rfl rfl rfl ?_
    show buildTable ((zeroClLens _ (s.seen.clLen.setIfInBounds _ l)).toList.map BitVec.toNat) = _
    rw [hnext]
    rfl

theorem putLens_endClStep_seen {s : State} (hf : s.fsm = .clens) (n : Nat) (v prev : BitVec 4) :
    (s.seen.putLens n v prev).endClStep.seen = (s.putLens n v prev).endClStep.seen := by
  have hput : s.seen.putLens n v prev = { s.seen with
      lens := fillLens v n s.clIdx.toNat s.lens, clIdx := BitVec.ofNat 9 (s.clIdx.toNat + n), prev := prev } := by
    show ({ s.seen with lens := fillLens v n s.clIdx.toNat s.lensSeen, clIdx := _, prev := prev } : State) = _
    rw [State.lensSeen_eq (.inl hf)]
    rfl
  rw [hput]
  exact State.seen_ite rfl (State.seen_eq rfl s.seen_clLenSeen (State.lensSeen_congr rfl rfl) s.seen_cltSeen)

/-- A code-length symbol writes one length, or repeats PREV or 0 (42_block_decoder.md R115 to R118). -/
theorem exec_clSymbol_cases {i : Instr} (h : i.clSymbol.isSome) :
    (∃ v, ∀ s, exec i s = .next (oneLength v s)) ∨ (∃ n, ∀ s, exec i s = (repeatLength n s.prev s).finish) ∨
    ∃ n, ∀ s, exec i s = (repeatLength n 0 s).finish := by
  obtain ⟨p, h⟩ := Option.isSome_iff_exists.1 h
  unfold Instr.clSymbol at h
  split at h
  case h_17 => exact .inr (.inl ⟨_, fun _ => rfl⟩)
  case h_18 | h_19 => exact .inr (.inr ⟨_, fun _ => rfl⟩)
  case h_20 => cases h
  all_goals exact .inl ⟨_, fun _ => rfl⟩

theorem repeatLength_seen {s : State} (hf : s.fsm = .clens) (n : Nat) (v : BitVec 4) :
    (repeatLength n v s.seen).seen = (repeatLength n v s).seen :=
  Res.seen_ite (Res.seen_raise _ s) (congrArg Res.ok (putLens_endClStep_seen hf n v v))

theorem exec_clSymbol_seen {s : State} (hf : s.fsm = .clens) {i : Instr} (hi : i.clSymbol.isSome) :
    seenOutcome (exec i s.seen) = seenOutcome (exec i s) := by
  rcases exec_clSymbol_cases hi with ⟨v, e⟩ | ⟨n, e⟩ | ⟨n, e⟩
  · rw [e, e]
    exact seenOutcome_next (putLens_endClStep_seen hf 1 v v)
  · rw [e, e]
    exact Res.seenOutcome_finish (repeatLength_seen hf n s.prev)
  · rw [e, e]
    exact Res.seenOutcome_finish (repeatLength_seen hf n 0)

theorem literalByte_seen (v : BitVec 8) (s : State) : (literalByte v s.seen).seen = (literalByte v s).seen := by
  rw [literalByte, literalByte, State.growForLiteral_eq, State.growForLiteral_eq, State.seen_grow]
  refine Res.seen_andThen fun t _ => ?_
  rw [State.seen_emit, Res.seen_seen]

theorem endOfBlock_seen (s : State) : (endOfBlock s.seen).seen = (endOfBlock s).seen :=
  (s.withReader s.reader.eobRewind).seen_blockEnd

theorem exec_litLen_seen {i : Instr} (hi : i.isLitLen) (s : State) : seenOutcome (exec i s.seen) = seenOutcome (exec i s) := by
  rcases hi with hi | rfl | rfl | hi
  · obtain ⟨v, hi⟩ := Option.isSome_iff_exists.1 hi
    rw [exec_of_literalOf hi, exec_of_literalOf hi]
    exact Res.seenOutcome_finish (literalByte_seen v s)
  · exact seenOutcome_next (endOfBlock_seen s)
  · exact seenOutcome_next (endOfBlock_seen s)
  · obtain ⟨n, hi⟩ := Option.isSome_iff_exists.1 hi
    rw [exec_of_lengthOf hi, exec_of_lengthOf hi]
    exact seenOutcome_next (s.seen_setPend rfl)

section Written

variable {s : State} (hsize : s.par.outMemSize ≤ 2 ^ 31) (hlist : s.Written)
include hsize hlist

theorem copyMatch_seen {dist : Nat} (hpos : 1 ≤ dist) : (copyMatch dist s.seen).seen = (copyMatch dist s).seen := by
  by_cases hfar : s.op.toNat < dist
  · rw [copyMatch_of_far (s := s.seen) hfar, copyMatch_of_far hfar]
    exact Res.seen_raise _ s
  · have hmatch : copyMatch dist s.seen = (s.seen.grow (s.op.toNat + s.pend.length) none).andThen fun t =>
        (copyForward dist s.pend.length t).andThen fun u => .ok (u.setPend .none) := if_neg hfar
    rw [hmatch, copyMatch, if_neg hfar, State.seen_grow]
    refine Res.seen_andThen fun t ht => ?_
    obtain ⟨hpar, hop, hout⟩ : t.par = s.par ∧ t.op = s.op ∧ t.outMem = s.outMem := by
      rw [State.grow_ok ht]
      exact ⟨rfl, rfl, rfl⟩
    rw [copyForward_seen hpos _ (hpar ▸ hsize) (by rw [State.Written, hout, hop, hlist]) (by rw [hop]; omega)]
    exact Res.seen_andThen fun u _ => congrArg Res.ok (u.seen_setPend rfl)

theorem exec_dist_seen {i : Instr} (hi : i.isDist) (hwf : i.wellFormed = true) :
    seenOutcome (exec i s.seen) = seenOutcome (exec i s) := by
  rcases hi with hi | ⟨d, rfl⟩ | rfl | rfl
  · obtain ⟨d, hi⟩ := Option.isSome_iff_exists.1 hi
    rw [exec_of_distanceOf hi, exec_of_distanceOf hi]
    exact Res.seenOutcome_finish (copyMatch_seen hsize hlist (Instr.distanceOf_bounds hi hwf).1)
  all_goals exact Res.seenOutcome_finish (Res.seen_raise _ s)

omit hsize in
theorem finishDecode_seen : (finishDecode s.seen).seen = (finishDecode s).seen := by
  refine Res.seen_ite (congrArg Res.ok ?_) rfl
  rw [State.seen_loadAdler hlist]
  exact State.seen_ite (s.loadAdler.seen_setPend rfl) rfl

omit hsize hlist in
theorem checkTrailer_seen (w : Word) (s : State) : (checkTrailer w s.seen).seen = (checkTrailer w s).seen :=
  Res.seen_ite (Res.seen_raise _ (s.loadTrailer w)) rfl

omit hsize in
/-- DYNBUILD and FINISH do the same on what is seen (42_block_decoder.md R119, R120). -/
theorem exec_internalStep_seen (hstart : s.pend ≠ .startStep) {i : Instr} (hi : s.internalStep = some i) :
    seenOutcome (exec i s.seen) = seenOutcome (exec i s) := by
  unfold State.internalStep at hi
  split at hi
  case h_1 hp => exact absurd hp hstart
  case h_2 hf =>
    cases hi
    have hlens : s.seen.lens = s.lens := State.lensSeen_eq (.inr hf)
    refine seenOutcome_next ?_
    unfold State.buildTables State.litLenLengths State.distanceLengths
    rw [hlens]
    rfl
  case h_3 =>
    cases hi
    exact Res.seenOutcome_finish (finishDecode_seen hlist)
  case h_4 => cases hi

/-- Every element, where it is read, does the same on what is seen. -/
theorem exec_seen {c : Ctx} (hc : s.place = some c) {i : Instr} (hi : c.Names i) (hwf : i.wellFormed = true) :
    seenOutcome (exec i s.seen) = seenOutcome (exec i s) := by
  cases c with
  | zhdr =>
    obtain ⟨cmf, flg, rfl⟩ := hi
    exact Res.seenOutcome_finish (zlibHeader_seen cmf flg s)
  | block =>
    obtain ⟨f, t, rfl⟩ := hi
    exact exec_blockOf_seen f t s
  | stored =>
    obtain ⟨len, nlen, rfl⟩ := hi
    exact Res.seenOutcome_finish (storedHeader_seen len nlen s)
  | data =>
    obtain ⟨b, rfl⟩ := hi
    exact Res.seenOutcome_finish (storedByte_seen b s)
  | dyn =>
    obtain ⟨x, y, z, rfl⟩ := hi
    exact seenOutcome_next ((s.setCounts x y z).seen_setPend rfl)
  | cll =>
    obtain ⟨l, rfl⟩ := hi
    obtain ⟨j, hj⟩ := State.pend_eq_of_place_cll hc
    exact exec_cll_seen hj l
  | cl t => exact exec_clSymbol_seen (State.fsm_eq_of_place_cl hc) hi
  | litLen fixed t => exact exec_litLen_seen hi s
  | dist fixed t => exact exec_dist_seen hsize hlist hi hwf
  | trailer =>
    obtain ⟨w, rfl⟩ := hi
    exact Res.seenOutcome_finish (checkTrailer_seen w s)

end Written

end Sys2Proof.Machine
end

section
/-! PROOFS. The outcome of a decode (70_reset_and_hazards.md R205): two states that look the same to a running decode, and whose bytes of
IN agree below IN_LEN, go on doing so. -/

namespace Sys2Proof.Machine

/-! ## Decoding reads no byte past the end of the input -/

section Input

variable {byte byte' : Nat → Option Byte} {b : Nat → Byte} {len : Nat} (hb : ∀ a, a < len → byte a = some (b a))
  (hb' : ∀ a, a < len → byte' a = some (b a))
include hb hb'

theorem fillTo_congr (need fuel : Nat) (r : Reader) : fillTo byte len need fuel r = fillTo byte' len need fuel r := by
  induction fuel generalizing r with
  | zero => rfl
  | succ fuel ih =>
    rw [fillTo, fillTo]
    split_ifs with hc
    · rw [hb _ hc.2, hb' _ hc.2]
      exact ih _
    · rfl

theorem readBits_congr (n : Nat) : readBits byte len n = readBits byte' len n := by
  funext r
  rw [readBits, readBits, fillTo_congr hb hb']

theorem readCode_congr (t : Table) : readCode byte len t = readCode byte' len t := by
  funext r
  rw [readCode, readCode, fillTo_congr hb hb']

/-- An element is decoded from the input below its end, where a data byte lies too. -/
theorem decode_congr (c : Ctx) {r : Reader} (hdata : c = .data → r.ip < len) : decode c byte len r = decode c byte' len r := by
  cases c with
  | zhdr =>
    by_cases hfit : r.ip + 2 ≤ len
    · exact (decodeZhdr_of_le hb hfit).trans (decodeZhdr_of_le hb' hfit).symm
    · exact (if_pos (Nat.lt_of_not_le hfit)).trans (if_pos (Nat.lt_of_not_le hfit)).symm
  | stored =>
    by_cases hfit : r.ip + 4 ≤ len
    · exact (decodeStored_of_le hb hfit).trans (decodeStored_of_le hb' hfit).symm
    · exact (if_pos (Nat.lt_of_not_le hfit)).trans (if_pos (Nat.lt_of_not_le hfit)).symm
  | trailer =>
    by_cases hfit : r.ip + 4 ≤ len
    · exact (decodeTrailer_of_le hb hfit).trans (decodeTrailer_of_le hb' hfit).symm
    · exact (if_pos (Nat.lt_of_not_le hfit)).trans (if_pos (Nat.lt_of_not_le hfit)).symm
  | data => exact (decodeData_of_lt hb (hdata rfl)).trans (decodeData_of_lt hb' (hdata rfl)).symm
  | block => simp only [decode, decodeBlock, readBits_congr hb hb']
  | dyn => simp only [decode, decodeDyn, readBits_congr hb hb']
  | cll => simp only [decode, decodeCll, readBits_congr hb hb']
  | cl t => simp only [decode, decodeCl, readBits_congr hb hb', readCode_congr hb hb']
  | litLen fixed t => simp only [decode, decodeLitLen, readBits_congr hb hb', readCode_congr hb hb']
  | dist fixed t => simp only [decode, decodeDist, readBits_congr hb hb', readCode_congr hb hb']

end Input

/-! ## The relation -/

/-- s and t look the same to a running decode. -/
structure State.Alike (s t : State) : Prop where
  seen : s.seen = t.seen
  input : ∀ a, a < s.inLen.toNat → s.inByte a = t.inByte a

/-- Where two states look the same, so does all that is read of what is seen. -/
theorem State.Alike.field {s t : State} (h : s.Alike t) (f : State → β) (hf : ∀ u : State, f u.seen = f u) : f s = f t := by
  rw [← hf s, h.seen, hf t]

theorem State.Decoding.written {s : State} (h : s.Decoding) : s.Written := by
  obtain ⟨-, -, -, -, hlist, -⟩ := h
  exact hlist

/-! ## The parts and the step -/

section Parts

variable {s t : State} (h : s.Alike t) (hs : s.Decoding) (ht : t.Decoding)
include h hs ht

/-- The elements the two states decode are the same, and do the same. -/
theorem seenOutcome_runPart_of_place {c : Ctx} (hc : s.place = some c) (hdata : c = .data → s.ip.toNat < s.inLen.toNat) :
    seenOutcome (runPart exec s) = seenOutcome (runPart exec t) := by
  have hc' : t.place = some c := (h.field State.place State.seen_place).symm.trans hc
  have hlen : s.inLen = t.inLen := h.field State.inLen fun _ => rfl
  have hreader : s.reader = t.reader := h.field State.reader fun _ => rfl
  have hinput : ∀ a, a < s.inLen.toNat → t.readIn a = some (s.inByte a) := fun a ha =>
    (ht.readIn a (hlen ▸ ha)).trans (congrArg some (h.input a ha).symm)
  have hdecode : decode c s.readIn s.inLen.toNat s.reader = decode c t.readIn t.inLen.toNat t.reader := by
    rw [← hlen, ← hreader]
    exact decode_congr hs.readIn hinput c hdata
  have hwith (r : Reader) : (s.withReader r).seen = (t.withReader r).seen := congrArg (State.withReader · r) h.seen
  have hanswers := decode_answers s.readIn s.inLen.toNat s.reader c
  cases hd : decode c s.readIn s.inLen.toNat s.reader with
  | instr i r =>
    rw [hd] at hanswers
    have hwf := decodedElementsAreWellFormed c _ _ _ _ _ hd
    rw [runPart_instr exec hc hd, runPart_instr exec hc' (hdecode ▸ hd)]
    calc seenOutcome (exec i (s.withReader r))
      _ = seenOutcome (exec i (s.withReader r).seen) :=
          (exec_seen (s := s.withReader r) hs.1.outMemSize_le hs.written hc hanswers hwf).symm
      _ = seenOutcome (exec i (t.withReader r).seen) := by rw [hwith]
      _ = seenOutcome (exec i (t.withReader r)) :=
          exec_seen (s := t.withReader r) ht.1.outMemSize_le ht.written hc' hanswers hwf
  | raise e r got =>
    rw [runPart_raise exec hc hd, runPart_raise exec hc' (hdecode ▸ hd)]
    have hkeep : ((s.withReader r).keepRead c got).seen = ((t.withReader r).keepRead c got).seen := by
      rw [← State.seen_keepRead, hwith, State.seen_keepRead]
    refine seenOutcome_next ?_
    rw [← State.seen_enterError, hkeep, State.seen_enterError]
  | noByte a =>
    simp only [runPart, State.fetch, hc, hc', State.fetchAt, hd, ← hdecode]

/-- DYNBUILD and FINISH do the same. -/
theorem seenOutcome_runPart_of_internal (hstart : s.pend ≠ .startStep) (hc : s.place = none) :
    seenOutcome (runPart exec s) = seenOutcome (runPart exec t) := by
  have hc' : t.place = none := (h.field State.place State.seen_place).symm.trans hc
  have hinternal : s.internalStep = t.internalStep := h.field State.internalStep fun _ => rfl
  cases hi : s.internalStep with
  | none => simp only [runPart, State.fetch, hc, hc', hi, ← hinternal]
  | some i =>
    have hi' : t.internalStep = some i := hinternal ▸ hi
    have hstart' : t.pend ≠ .startStep := h.field State.pend (fun _ => rfl) ▸ hstart
    rw [runPart_internal exec hc hi, runPart_internal exec hc' hi', ← exec_internalStep_seen hs.written hstart hi, h.seen,
      exec_internalStep_seen ht.written hstart' hi']

theorem seenOutcome_runPart (hstart : s.pend ≠ .startStep) (hdata : s.place = some .data → s.ip.toNat < s.inLen.toNat) :
    seenOutcome (runPart exec s) = seenOutcome (runPart exec t) := by
  cases hc : s.place with
  | some c => exact seenOutcome_runPart_of_place h hs ht hc fun hd => hdata (hd ▸ hc)
  | none => exact seenOutcome_runPart_of_internal h hs ht hstart hc

/-- Where a part of two states that look the same ends, the states after it look the same. -/
theorem State.Alike.runPart (hstart : s.pend ≠ .startStep) (hdata : s.place = some .data → s.ip.toNat < s.inLen.toNat)
    {u v : State} (hu : runPart exec s = .next u) (hv : runPart exec t = .next v) : u.Alike v := by
  have hseen := seenOutcome_runPart h hs ht hstart hdata
  have hstart' : t.pend ≠ .startStep := h.field State.pend (fun _ => rfl) ▸ hstart
  have hconst := (runPart_continues hs.1.outMemSize_le hstart u hu).const
  have hconst' := (runPart_continues ht.1.outMemSize_le hstart' v hv).const
  rw [hu, hv] at hseen
  refine ⟨by injection hseen, fun a ha => ?_⟩
  have hin : u.inMem = s.inMem := congrArg EngineConst.inMem hconst
  have hin' : v.inMem = t.inMem := congrArg EngineConst.inMem hconst'
  have hlen : u.inLen = s.inLen := congrArg EngineConst.inLen hconst
  rw [State.inByte_congr hin, State.inByte_congr hin']
  exact h.input a (hlen ▸ ha)

end Parts

theorem State.Alike.runParts {n : Nat} {s t : State} (h : s.Alike t) (hs : s.MidStep n) (ht : t.MidStep n) (hstart : s.pend ≠ .startStep)
    {u v : State} (hu : runParts exec n s = .next u) (hv : runParts exec n t = .next v) : u.Alike v := by
  have hpend : s.pend = t.pend := h.field State.pend fun _ => rfl
  induction n generalizing s t with
  | zero =>
    cases hu
    cases hv
    exact h
  | succ n ih =>
    by_cases hp : s.pend = .none
    · rw [runParts_done hp] at hu
      rw [runParts_done (hpend ▸ hp)] at hv
      cases hu
      cases hv
      exact h
    · have hp' : t.pend ≠ .none := hpend ▸ hp
      have hs' := hs.decoding hp hstart
      obtain ⟨s₁, e, hs₁⟩ := hs.runPart hp
      obtain ⟨t₁, e', ht₁⟩ := ht.runPart hp'
      have h₁ := h.runPart hs' (ht.decoding hp' (hpend ▸ hstart)) hstart hs.ip_lt_of_data e e'
      rw [runParts_succ exec hp, e] at hu
      rw [runParts_succ exec hp', e'] at hv
      exact ih h₁ hs₁ ht₁ (hs'.runPart_inLen hstart e).2 hu hv (h₁.field State.pend fun _ => rfl)

/-- The engine's steps from two states that look the same end in two such states. -/
theorem State.Alike.step {s t : State} (h : s.Alike t) (hs : s.Inv) (ht : t.Inv) (hscript : s.script = []) (hscript' : t.script = [])
    {u : State} (hstep : Machine.step s = .next u) : ∃ v, Machine.step t = .next v ∧ u.Alike v := by
  have hbusy : s.busy = true := by
    by_contra hb
    rw [(runningEngineTakesAStep s hs hscript).2 (by simpa using hb)] at hstep
    cases hstep
  have hbusy' : t.busy = true := (h.field State.busy fun _ => rfl).symm.trans hbusy
  obtain ⟨v, hstep'⟩ := (runningEngineTakesAStep t ht hscript').1 hbusy'
  obtain ⟨s₁, e, hs₁, hu⟩ := hs.exists_runPart hscript hbusy hstep
  obtain ⟨t₁, e', ht₁, hv⟩ := ht.exists_runPart hscript' hbusy' hstep'
  have hadvance : s.advance.Alike t.advance := ⟨h.seen, h.input⟩
  have hdec : s.advance.Decoding := hs.decoding hbusy
  have hstart : s.advance.pend ≠ .startStep := by simp [hs.pend_eq]
  have hplace : s.advance.place ≠ some .data := by
    intro hc
    cases hf : s.fsm <;> simp [State.place, hs.pend_eq, hf] at hc
  have h₁ := hadvance.runPart hdec (ht.decoding hbusy') hstart (fun hc => absurd hc hplace) e e'
  exact ⟨v, hstep', h₁.runParts hs₁ ht₁ (hdec.runPart_inLen hstart e).2 hu hv⟩

/-! ## The run -/

theorem exists_step_of_run {n : Nat} {s u : State} (h : core.run (n + 1) s = .next u) :
    ∃ v, Machine.step s = .next v ∧ core.run n v = .next u := by
  have hcore : core.step s = Machine.step s := rfl
  cases hstep : Machine.step s with
  | next v => exact ⟨v, rfl, core_run_succ hstep n ▸ h⟩
  | fault f =>
    rw [Host.Core.run.eq_2 core s n, hcore, hstep] at h
    cases h
  | refused r =>
    rw [Host.Core.run.eq_2 core s n, hcore, hstep] at h
    cases h

/-- What an engine's step keeps of a launch: the invariant, the empty script, and that the bytes below OP are the ones written. -/
theorem State.Inv.kept_of_step {s t : State} (h : s.Inv) (hscript : s.script = []) (hstep : Machine.step s = .next t) :
    t.Inv ∧ t.script = [] ∧ (s.Written → t.Written) := by
  have hcont := step_continues_of_inv h hscript hstep
  exact ⟨invKeptByEveryStep s t h hstep, (congrArg EngineConst.script hcont.const).trans hscript, hcont.listed⟩

/-- Runs of the engine from two states that look the same. -/
theorem State.Alike.run {n : Nat} {s t : State} (h : s.Alike t) (hs : s.Inv) (ht : t.Inv) (hscript : s.script = [])
    (hscript' : t.script = []) (hwritten : s.Written) {u : State} (hu : core.run n s = .next u) : ∃ v, core.run n t = .next v ∧ u.Alike v ∧ u.Written := by
  induction n generalizing s t with
  | zero =>
    cases hu
    exact ⟨t, rfl, h, hwritten⟩
  | succ n ih =>
    obtain ⟨s₁, hstep, hrun⟩ := exists_step_of_run hu
    obtain ⟨t₁, hstep', h₁⟩ := h.step hs ht hscript hscript' hstep
    obtain ⟨hs₁, hscript₁, hwritten₁⟩ := hs.kept_of_step hscript hstep
    obtain ⟨ht₁, hscript₁', -⟩ := ht.kept_of_step hscript' hstep'
    obtain ⟨v, hv, h'⟩ := ih h₁ hs₁ ht₁ hscript₁ hscript₁' (hwritten₁ hwritten) hrun
    exact ⟨v, (core_run_succ hstep' n).trans hv, h'⟩

/-- Two launches with the same input, options and parameters begin the same decode (42_block_decoder.md R110). -/
theorem State.startInit_alike {s t : State} (hpar : s.par = t.par) (hmode : s.mode = t.mode) (hverify : s.verify = t.verify)
    (hindex : s.index = t.index) (hinLen : s.inLen = t.inLen) (hbufSize : s.bufSize = t.bufSize) (hscript : s.script = t.script)
    (hinput : ∀ a, a < s.inLen.toNat → s.inByte a = t.inByte a) : s.startInit.Alike t.startInit := by
  have hlens (u : State) : u.startInit.lensSeen = Vector.replicate 320 0 := by
    unfold State.lensSeen
    rw [State.startInit_fsm]
    split_ifs <;> rfl
  have hclt (u : State) : u.startInit.cltSeen = { max := 0, min := 0, slots := [] } := by
    unfold State.cltSeen
    rw [State.startInit_fsm]
    split_ifs <;> rfl
  refine ⟨State.seen_eq ?_ rfl ((hlens s).trans (hlens t).symm) ((hclt s).trans (hclt t).symm), hinput⟩
  simp only [State.bare, State.startInit, State.clearFlags, hpar, hmode, hverify, hindex, hinLen, hbufSize, hscript]

/-- Settles O12: a decode's two runs look the same to it from their START on. -/
theorem outcomeDependsOnLaunchAlone : Obligations.OutcomeDependsOnLaunchAlone := by
  unfold Obligations.OutcomeDependsOnLaunchAlone
  intro s₁ s₂ hs₁ hs₂ hscript₁ hscript₂ hpar hmode hverify hindex hinLen hbufSize hinput n t₁ hrun
  have hstart := State.startInit_alike hpar hmode hverify hindex hinLen hbufSize (hscript₁.trans hscript₂.symm) hinput
  obtain ⟨hparams₁, ⟨hin₁, -⟩, -⟩ := hs₁
  obtain ⟨hparams₂, ⟨hin₂, -⟩, -⟩ := hs₂
  have hinv₁ := State.startInit_inv hparams₁ hin₁
  have hinv₂ := State.startInit_inv hparams₂ hin₂
  obtain ⟨t₂, hrun₂, h, hwritten⟩ := hstart.run hinv₁ hinv₂ hscript₁ hscript₂ rfl hrun
  have hout : t₁.outMem = t₂.outMem := h.field State.outMem fun _ => rfl
  exact ⟨t₂, hrun₂, h.field State.fsm fun _ => rfl, h.field State.done fun _ => rfl, h.field State.err fun _ => rfl,
    h.field State.errCode fun _ => rfl, h.field State.errIp fun _ => rfl, h.field State.errOp fun _ => rfl,
    h.field State.outLen fun _ => rfl, h.field State.adler fun _ => rfl, h.field State.trailer fun _ => rfl,
    h.field State.ip fun _ => rfl, h.field State.bitPos fun _ => rfl, h.field State.op fun _ => rfl, h.field State.cap fun _ => rfl,
    fun a ha => (State.outByte_below hwritten ha hout.symm).symm⟩

end Sys2Proof.Machine
end

section
/-! PROOFS. The code-length symbols (42_block_decoder.md R115 to R118), the checks of the zlib header (R111), and the parts of FINISH
(R120; 45_adler32.md R162, R163). -/

namespace Sys2Proof.Machine

/-! ## The code lengths written -/

/-- LENS after a fill: n entries from number j on hold v, the others what they held. -/
theorem fillLens_getElem? (v : BitVec 4) (n j : Nat) (lens : Vector (BitVec 4) 320) (hfit : j + n ≤ 320) (k : Nat) :
    (fillLens v n j lens)[k]? = if j ≤ k ∧ k < j + n then some v else lens[k]? := by
  induction n generalizing j lens with
  | zero => rw [fillLens, if_neg (by omega)]
  | succ n ih =>
    rw [fillLens, ih (j + 1) _ (by omega), Vector.getElem?_setIfInBounds]
    by_cases hk : j = k
    · rw [if_neg (by omega), if_pos hk, if_pos (by omega), if_pos (by omega)]
    · by_cases hin : j + 1 ≤ k ∧ k < j + 1 + n
      · rw [if_pos hin, if_pos (by omega)]
      · rw [if_neg hin, if_neg hk, if_neg (by omega)]

/-- CLIDX after n code lengths within HLIT + HDIST. -/
theorem State.putLens_clIdx_toNat {s : State} {n : Nat} (v prev : BitVec 4) (hfit : s.clIdx.toNat + n < 2 ^ 9) :
    (s.putLens n v prev).clIdx.toNat = s.clIdx.toNat + n := by
  rw [State.putLens_clIdx, BitVec.toNat_ofNat, Nat.mod_eq_of_lt hfit]

/-- The sequence of code lengths ends at HLIT + HDIST (R115). -/
theorem State.endClStep_putLens {s : State} {n : Nat} (v prev : BitVec 4) (hp : s.pend = .none) (hfit : s.clIdx.toNat + n < 2 ^ 9) :
    (s.putLens n v prev).endClStep = { s.putLens n v prev with
      fsm := if s.clIdx.toNat + n = s.hlit.toNat + s.hdist.toNat then .dynbuild else s.fsm } := by
  unfold State.endClStep
  rw [State.putLens_clIdx_toNat v prev hfit, State.putLens_hlit, State.putLens_hdist]
  split_ifs
  · exact State.eq_of_setPend_eq hp.symm rfl
  · rfl

/-- The symbols 0 .. 15 write one code length, their own number (R115). -/
theorem exec_of_clSymbol_le {i : Instr} {sym e : Nat} (h : i.clSymbol = some (sym, e)) (hle : sym ≤ 15) (s : State) :
    exec i s = .next (oneLength (BitVec.ofNat 4 sym) s) := by
  unfold Instr.clSymbol at h
  split at h
  case h_17 | h_18 | h_19 =>
    cases h
    omega
  case h_20 => cases h
  all_goals
    cases h
    rfl

/-- Settles O37: one length is written at CLIDX, and the step ends as every CLENS step does. -/
theorem codeLengthSymbolsWriteOneLength : Obligations.CodeLengthSymbolsWriteOneLength := by
  unfold Obligations.CodeLengthSymbolsWriteOneLength
  intro i sym e s hi hle hp hidx
  rw [exec_of_clSymbol_le hi hle, oneLength, State.endClStep_putLens _ _ hp (by omega)]
  have hnext : BitVec.ofNat 9 (s.clIdx.toNat + 1) = s.clIdx + 1 := by
    rw [BitVec.ofNat_add, BitVec.ofNat_toNat, BitVec.setWidth_eq]
    rfl
  rw [State.putLens, hnext]
  rfl

/-- The rows CL 16, CL 17 and CL 18 repeat a code length (R116 to R118). -/
theorem exec_repeatLength {i : Instr} {r : Nat} {v : BitVec 4} {s : State}
    (h : (∃ e, i = .cl16 e ∧ r = 3 + e.toNat ∧ v = s.prev) ∨ (∃ e, i = .cl17 e ∧ r = 3 + e.toNat ∧ v = 0) ∨
      (∃ e, i = .cl18 e ∧ r = 11 + e.toNat ∧ v = 0)) : exec i s = (repeatLength r v s).finish := by
  rcases h with ⟨e, rfl, rfl, rfl⟩ | ⟨e, rfl, rfl, rfl⟩ | ⟨e, rfl, rfl, rfl⟩
  · rfl
  · rfl
  · rfl

/-- Settles O38: a repeat that fits fills its entries, and one that does not raises before it writes. -/
theorem codeLengthRepeats : Obligations.CodeLengthRepeats := by
  unfold Obligations.CodeLengthRepeats
  intro i r v s hi hp hlit hdist
  rw [exec_repeatLength hi]
  refine ⟨fun hpast => ?_, fun hfit => ?_⟩
  · rw [repeatLength, if_pos hpast]
    rfl
  · have hentry := fillLens_getElem? v r s.clIdx.toNat s.lens (by omega)
    rw [repeatLength, if_neg (Nat.not_lt.2 hfit), State.endClStep_putLens v v hp (by omega)]
    refine ⟨_, rfl, State.putLens_clIdx_toNat v v (by omega), rfl, fun k hle hlt => ?_, fun k hk => ?_, rfl⟩
    · exact (hentry k).trans (if_pos ⟨hle, hlt⟩)
    · exact (hentry k).trans (if_neg (by omega))

/-! ## The zlib header -/

/-- The checks of the zlib header on the numbers they stand for (R111). -/
theorem and_0x0F_eq_iff (cmf : BitVec 8) : cmf &&& 0x0F = 8 ↔ cmf.toNat % 16 = 8 := by
  rw [← BitVec.toNat_inj, BitVec.toNat_and]
  show cmf.toNat &&& (2 ^ 4 - 1) = 8 ↔ _
  rw [Nat.and_two_pow_sub_one_eq_mod]

theorem and_0x20_eq_iff (flg : BitVec 8) : flg &&& 0x20 = 0 ↔ flg.getLsbD 5 = false := by
  show flg &&& BitVec.twoPow 8 5 = 0 ↔ _
  rw [BitVec.and_twoPow]
  cases flg.getLsbD 5 <;> decide

theorem exec_zhdr (cmf flg : BitVec 8) (s : State) : exec (.zhdr cmf flg) s = (zlibHeader cmf flg s).finish := rfl

/-- Settles O28: each clause is one outcome of the three checks. -/
theorem zlibHeaderAcceptedOrRejected : Obligations.ZlibHeaderAcceptedOrRejected := by
  unfold Obligations.ZlibHeaderAcceptedOrRejected
  intro cmf flg s
  simp only [exec_zhdr, zlibHeader, ne_eq, and_0x0F_eq_iff, and_0x20_eq_iff]
  refine ⟨fun hcm hrem hdict => ?_, fun hcm => ?_, fun hcm hrem => ?_, fun hcm hrem hdict => ?_⟩
  · simp only [hcm, hrem, hdict, not_true, if_false]
    rfl
  · simp only [hcm, not_false_iff, if_true]
    rfl
  · simp only [hcm, hrem, not_true, not_false_iff, if_false, if_true]
    rfl
  · simp only [hcm, hrem, hdict, not_true, Bool.true_eq_false, not_false_iff, if_false, if_true]
    rfl

/-! ## FINISH and the trailer -/

/-- The checksum FINISH loads is that of the bytes of OUT below OP (45_adler32.md R162). -/
theorem State.loadAdler_eq (s : State) : s.loadAdler = { s with adler := adlerCalc ((List.range s.op.toNat).map s.outByte) } := by
  rw [State.loadAdler, State.outBytes_eq_map, ← List.range_eq_range']

/-- Settles O49: FINISH loads ADLER and leaves the trailer to be read, or completes; the trailer completes or raises. -/
theorem finishAndTrailerComplete : Obligations.FinishAndTrailerComplete := by
  unfold Obligations.FinishAndTrailerComplete
  intro s hop
  rw [exec_finish hop, State.loadAdler_eq]
  refine ⟨fun hno => ?_, fun hyes => ?_, fun w hw => ?_, fun w hw => ?_⟩
  · rw [hno]
    rfl
  · rw [hyes]
    rfl
  · rw [exec_trailer, if_neg (not_not.2 hw)]
    rfl
  · rw [exec_trailer, if_pos hw]
    rfl

end Sys2Proof.Machine
end

section
/-! PROOFS. Reset and the moves of the host during a decode (70_reset_and_hazards.md R200 to R206), and words written out from the
encodings (30_encoding.md R63 to R79). -/

namespace Sys2Proof.Machine

/-! ## Reset -/

/-- CTRL reads MODE = 1 and its other fields 0 (10_state.md R31). -/
theorem State.resetWith_ctrlWord (p : Params) : (State.resetWith p).ctrlWord = 0x00000004 :=
  BitVec.eq_of_toNat_eq (State.ctrlWord_toNat _)

theorem State.resetWith_statusWord (p : Params) : (State.resetWith p).statusWord = 0 :=
  BitVec.eq_of_toNat_eq (State.statusWord_toNat _)

/-- Settles O1: the reset values are those the spec gives, whatever the parameters. -/
theorem resetStateValues : Obligations.ResetStateValues := fun p =>
  ⟨State.resetWith_ctrlWord p, State.resetWith_statusWord p, rfl, rfl, rfl, rfl, rfl, rfl, rfl, rfl, rfl, rfl, rfl, rfl, rfl, rfl, rfl,
    rfl, rfl, rfl, rfl, rfl, rfl, rfl, rfl, rfl, rfl, rfl, rfl⟩

/-- A block that RST has reset has no step (42_block_decoder.md R121). -/
theorem State.applyReset_fetch (s : State) : s.applyReset.fetch = .stop (.fault .quiescent) := rfl

theorem State.applyReset_bitPos (s : State) : s.applyReset.bitPos = 0 := by
  show (0 : Word) <<< 3 - (0 : BitVec 6).setWidth 32 = 0
  decide

/-- Settles O2: RST is the reset values with the memories, CLLEN, LENS and the CLT RAM as they were. -/
theorem rstLeavesResetValues : Obligations.RstLeavesResetValues := by
  unfold Obligations.RstLeavesResetValues
  intro s
  exact ⟨s.applyReset, exec_rst s, State.resetWith_ctrlWord s.par, State.resetWith_statusWord s.par, rfl, rfl, rfl, rfl, rfl, rfl, rfl,
    rfl, rfl, s.applyReset_bitPos, rfl, rfl, rfl, rfl, rfl, rfl, rfl, rfl, rfl, rfl, rfl, rfl, rfl, rfl, rfl, rfl, rfl, rfl, rfl, rfl,
    s.applyReset_fetch, fun _ => rfl, fun _ => rfl, rfl, rfl, rfl, rfl, fun _ h => ⟨_, step_reset h, rfl⟩⟩

/-! ## The moves of the host during a decode -/

/-- t is s but for what a host access may change during a decode: CTRL.IE, what a read returned, the refusal mark and the counters
that pick free values (R206; assumptions 7, 18). -/
def State.HostKeeps (s t : State) : Prop :=
  t = { s with ie := t.ie, readData := t.readData, refusedMark := t.refusedMark, epoch := t.epoch, outDraw := t.outDraw }

/-- CLEAR finds neither flag set (10_state.md R12). -/
theorem State.clearStatus_of_busy {s : State} (h : s.Inv) (hb : s.busy = true) (v : Word) : s.clearStatus v = s := by
  obtain ⟨-, -, -, -, -, -, hflags, -⟩ := h
  obtain ⟨hdone, herr⟩ := hflags.of_busy hb
  have hdone' : (s.done && !v.getLsbD 1) = s.done := by rw [hdone, Bool.false_and]
  have herr' : (s.err && !v.getLsbD 2) = s.err := by rw [herr, Bool.false_and]
  rw [State.clearStatus, hdone', herr']

/-- A register write that is no ABORT. -/
theorem exec_regWrite_of_busy {s : State} (h : s.Inv) (hb : s.busy = true) {off : Nat} {v : Word}
    (habort : ∀ w, decodeRegWrite off v ≠ .abort w) : ∃ t, exec (decodeRegWrite off v) s = .next t ∧ s.HostKeeps t := by
  unfold decodeRegWrite at *
  split_ifs at *
  · exact absurd rfl (habort v)
  · exact ⟨_, exec_start_of_busy hb v, rfl⟩
  · rw [exec_config, State.writeOptions_of_busy hb]
    exact ⟨_, rfl, rfl⟩
  · exact ⟨s.clearStatus v, rfl, by rw [State.clearStatus_of_busy h hb]; rfl⟩
  · rw [exec_setIndex, State.ifIdle_of_busy hb]
    exact ⟨_, rfl, rfl⟩
  · rw [exec_setInLen, State.ifIdle_of_busy hb]
    exact ⟨_, rfl, rfl⟩
  · rw [exec_setBufSize, State.ifIdle_of_busy hb]
    exact ⟨_, rfl, rfl⟩
  · exact ⟨s, rfl, rfl⟩

/-- Every host access that is no ABORT. -/
theorem exec_host_of_busy {s t : State} (h : s.Inv) (hb : s.busy = true) {p : Params} {b : BusAccess} {i : Instr}
    (hi : decodeBus p b = some i) (habort : ∀ v, i ≠ .abort v) (he : exec i s = .next t) : s.HostKeeps t := by
  rcases decodeBus_cases hi with ⟨off, v, rfl⟩ | ⟨off, rfl⟩ | ⟨a, rfl⟩ | ⟨a, rfl⟩
  · obtain ⟨u, e, hu⟩ := exec_regWrite_of_busy h hb habort
    cases e.symm.trans he
    exact hu
  · cases he
    rfl
  · rcases exec_inAccess_cases he with e | rfl | ⟨hidle, -⟩
    · rw [State.HostKeeps, e]
    · rfl
    · exact absurd (hidle.symm.trans hb) (by decide)
  · rcases exec_outAccess_cases he with e | rfl | ⟨hidle, -⟩
    · rw [State.HostKeeps, e]
    · rfl
    · exact absurd (hidle.symm.trans hb) (by decide)

/-- Settles O60: every access but ABORT keeps the decode, and leaves no part of a step to run. -/
theorem hostKeepsRunningDecode : Obligations.HostKeepsRunningDecode := by
  unfold Obligations.HostKeepsRunningDecode
  intro s t b ms h hb hscript habort hstep
  rw [step_bus hscript] at hstep
  cases hi : decodeBus s.par b with
  | none =>
    rw [hostStep_refused exec (s := s.setScript ms) hi] at hstep
    cases hstep
    rfl
  | some i =>
    rw [hostStep_access exec (s := s.setScript ms) hi] at hstep
    obtain ⟨u, hu, hinv, hbusy, hkeeps⟩ : ∃ u, u = (if b.wdata.isSome then (s.setScript ms).advance else s.setScript ms) ∧
        u.Inv ∧ u.busy = true ∧ (s.setScript ms).HostKeeps u := by
      refine ⟨_, rfl, ?_⟩
      split_ifs
      · exact ⟨h, hb, rfl⟩
      · exact ⟨h, hb, rfl⟩
    rw [← hu] at hstep
    cases he : exec i u with
    | next v =>
      have hv : u.HostKeeps v := exec_host_of_busy hinv hbusy hi (fun w hw => habort w (hw ▸ hi)) he
      have hpend : v.pend = .none := by
        rw [hv]
        exact hinv.pend_eq
      rw [he, thenParts_next hpend] at hstep
      cases hstep
      rw [hv, hkeeps]
      rfl
    | fault f =>
      rw [he] at hstep
      cases hstep
    | refused r =>
      rw [he] at hstep
      cases hstep

end Sys2Proof.Machine

namespace Sys2Proof

/-! ## Written words -/

/-- Settles O17: the decoder runs on each of the words. -/
theorem writtenWordsDecode : Obligations.WrittenWordsDecode := by
  unfold Obligations.WrittenWordsDecode
  decide +kernel

end Sys2Proof
end
